-- ==== Sys2Proof/Word.lean ====
section
/-! DEFINITION. Word.lean: the bit-vector types of the PX-63 and their plainest arithmetic. -/

namespace Sys2Proof

/-- One byte of a master line (R181). -/
abbrev Byte := BitVec 8

/-- A yard time: milliseconds since power-on modulo 2^32 (Conventions, "Yard time"). -/
abbrev YardTime := BitVec 32

/-- The time from `earlier` to `later`, taken modulo 2^32 as R91, R126, R131 and R135 take it. -/
abbrev YardTime.since (later earlier : YardTime) : Nat := (later - earlier).toNat

end Sys2Proof
end

