-- ==== Sys2Proof/Config.lean ====
section
/-! DEFINITION. Config.lean: the capacities the manual fixes, and the free values it leaves open. -/

namespace Sys2Proof.Config

/-- Records of the Cut Table (R99). -/
def cutTableSize : Nat := 24
/-- Entries of the demand pool (R102). -/
def poolSize : Nat := 256
/-- Entries of one occupancy list (R40). -/
def occupancySize : Nat := 8
/-- Cuts the roll list, the STAGED record and the cut at the crest may make together (R63, R65). -/
def rollListSize : Nat := 96
/-- Expected axles of a record after merges (R89, R90). -/
def axleLimit : Nat := 384
/-- Rolls one cut may absorb (R89). -/
def mergeLimit : Nat := 3
/-- Highest fragment number (R92). -/
def fragmentLimit : Nat := 3
/-- Steps of the longest path (R12, check 10). -/
def pathLimit : Nat := 12
/-- Slots of a grant table (R160). -/
def grantSlots : Nat := 16
/-- Entries of an inbound grant queue (R160). -/
def inboundSize : Nat := 4
/-- Notices of a port's notice queue (R189). -/
def noticeQueueSize : Nat := 64
/-- Where the discard count stops (R189). -/
def discardLimit : Nat := 65535
/-- Where a track's fill stops (R150). -/
def fillLimit : Nat := 4095
/-- Payload bytes of the longest frame (R181). -/
def payloadLimit : Nat := 1024
/-- Speed in cm/s that stands for "not measured" at the crest (R87, R91). -/
def unmeasuredSpeed : Nat := 20
/-- Hundredths of a millisecond in a millisecond: the resolution of R26. -/
def ticksPerMs : Nat := 100
/-- Longest write of the nonvolatile store, in ms (R13). -/
def writeLimitMs : Nat := 3000
/-- Longest pause inside a frame, in ms (R181). -/
def interByteMs : Nat := 5
/-- Qualification time of a detection input, in ms (R124). -/
def detectionMs : Nat := 20

/-- FREE VALUE (log entry 12): whether the stored copy reads back valid when the 3 s of a write (R13) run
out with no COMMIT_WRITE_END from outside. The manual gives both ends and no rule which one comes. -/
opaque storeReadsBack : Nat → Bool

end Sys2Proof.Config
end

