-- ==== Sys2Proof/Syntax.lean ====
section
/-! DEFINITION. Syntax.lean: the commands of the PX-63, one constructor per row of spec/opcode_table.json, and the
names their operands are made of. -/

namespace Sys2Proof

/-- The four master ports by role; their numbers are 1 to 4 (R180). -/
inductive Port where
  | planning | crest | speed | bowl
  deriving DecidableEq, Repr

/-- A point's positions, and its two outlets (Conventions). -/
inductive Pos where
  | n | r
  deriving DecidableEq, Repr

/-- The two heads of a wheel sensor: A upstream, B downstream (chapter 2). -/
inductive Head where
  | a | b
  deriving DecidableEq, Repr

/-- A wheel sensor: the crest sensor K, or the sensor on an outlet of a point (Conventions). -/
inductive Sensor where
  | k
  | out (point : Nat) (outlet : Pos)
  deriving DecidableEq, Repr

/-- A cut's name: roll number and fragment number (Conventions). -/
structure CutId where
  roll : Nat
  frag : Nat
  deriving DecidableEq, Repr

/-- What an outlet targets, and what zone an axle enters: a point's section or a track (R2, R53). -/
inductive Target where
  | point (n : Nat)
  | track (n : Nat)
  deriving DecidableEq, Repr

/-- The parent of a point (R2). -/
inductive Parent where
  | crest
  | point (n : Nat)
  deriving DecidableEq, Repr

/-- Why Point Control asks for a diversion as an event of its own (R111). -/
inductive RequestCause where
  | catchUp | blocked
  deriving DecidableEq, Repr

/-- The fields a request's payload carries, or the offset of the first byte that does not fit (R185, case 3). -/
inductive Fields (α : Type) where
  | fits (a : α)
  | misfit (offset : Nat)
  deriving DecidableEq, Repr

/-- A point item as sent, in or out of range (R2, R9). -/
structure PointItem where
  num : Nat
  parent : Parent
  targetN : Target
  targetR : Target
  toe : Nat
  lenN : Nat
  lenR : Nat
  allowance : Option Nat
  timeout : Option Nat
  deriving DecidableEq, Repr

/-- A track item as sent (R5, R9); the holder is a port number. That a notify flag may be left out, and is 0 (clear) or 1 (set) when
present, is the model's choice (log entry 49). -/
structure TrackItem where
  num : Nat
  capacity : Nat
  alternate : Option Nat
  holder : Nat
  notifyCopy : Option Nat
  notifyPass : Option Nat
  deriving DecidableEq, Repr

/-- A sensor item as sent: the input number of R1, the filter code of R181 and the head spacing in mm (R4). -/
structure SensorItem where
  input : Nat
  filter : Nat
  spacing : Nat
  deriving DecidableEq, Repr

/-- The yard item as sent; the standing and dwell limits are in tenths of a second (R6, R181). -/
structure YardItem where
  early : Option Nat
  separation : Option Nat
  standing : Option Nat
  disturbance : Option Nat
  dwell : Option Nat
  deriving DecidableEq, Repr

/-- Fields of ENTER CUT (R65); the class is the code sent, the tag its character codes. -/
structure EnterArgs where
  roll : Nat
  axles : Nat
  track : Nat
  cls : Nat
  tag : Option (List Nat)
  deriving DecidableEq, Repr

/-- Fields of AMEND CUT (R67). -/
structure AmendArgs where
  roll : Nat
  track : Nat
  deriving DecidableEq, Repr

/-- Fields of BLOCK POINT; the position is the code sent (R141). -/
structure BlockArgs where
  point : Nat
  position : Nat
  deriving DecidableEq, Repr

/-- Fields of SET POINT TIMING (R145). -/
structure TimingArgs where
  point : Nat
  allowance : Nat
  timeout : Nat
  deriving DecidableEq, Repr

/-- What ACK FAULT names: a point, or a sensor by its input number (R37, R181). -/
inductive AckTarget where
  | point (n : Nat)
  | sensor (input : Nat)
  deriving DecidableEq, Repr

/-- Fields of REROUTE CUT (R116). -/
structure RerouteArgs where
  cut : CutId
  track : Nat
  deriving DecidableEq, Repr

/-- Fields of SPEED REPORT (R110). -/
structure SpeedArgs where
  cut : CutId
  point : Nat
  speed : Nat
  deriving DecidableEq, Repr

/-- Fields of PULL RECORD and SET CAPACITY: a track and a number of axles (R155, R156). -/
structure TrackValueArgs where
  track : Nat
  value : Nat
  deriving DecidableEq, Repr

/-- Fields of SET ALTERNATE (R157). -/
structure AlternateArgs where
  track : Nat
  alternate : Option Nat
  deriving DecidableEq, Repr

/-- Fields of COPY GRANT; the target is the port number sent, the rights the byte sent (R162, R181). -/
structure CopyArgs where
  slot : Nat
  target : Nat
  rights : Nat
  deriving DecidableEq, Repr

/-- Fields of PASS GRANT (R163). -/
structure PassArgs where
  slot : Nat
  target : Nat
  deriving DecidableEq, Repr

/-- The commands. Every request carries its port, the tag of its frame and its fields; `urgent` says that it came in an
URGENT frame (R186). The docstring of each constructor names its row and rule. -/
inductive Instr where
  /-- POWER_ON (R16). -/
  | powerOn
  /-- READ_LIST (R71): the starting roll number. -/
  | readList (p : Port) (tag : Nat) (f : Fields Nat)
  /-- READ_CUT (R121). -/
  | readCut (p : Port) (tag : Nat) (f : Fields CutId)
  /-- READ_POINT (R146). -/
  | readPoint (p : Port) (tag : Nat) (f : Fields Nat)
  /-- READ_TRACK (R159). -/
  | readTrack (p : Port) (tag : Nat) (f : Fields Nat)
  /-- READ_SECTION (R62). -/
  | readSection (p : Port) (tag : Nat) (f : Fields Nat)
  /-- READ_PORT (R194). -/
  | readPort (p : Port) (tag : Nat) (f : Fields Unit)
  /-- READ_GRANTS (R170). -/
  | readGrants (p : Port) (tag : Nat) (f : Fields Unit)
  /-- SET_MASK (R191): the set byte as sent. -/
  | setMask (p : Port) (tag : Nat) (f : Fields Nat)
  /-- PORT_RESET (R193). -/
  | portReset (p : Port) (tag : Nat) (f : Fields Unit)
  /-- RELEASE_HUMP (R176). -/
  | releaseHump (p : Port) (tag : Nat) (f : Fields Unit)
  /-- HOLD_NOW (R175), in a REQUEST or an URGENT frame. -/
  | holdNow (p : Port) (tag : Nat) (urgent : Bool) (f : Fields Unit)
  /-- ENTER_CUT (R65). -/
  | enterCut (p : Port) (tag : Nat) (f : Fields EnterArgs)
  /-- AMEND_CUT (R67). -/
  | amendCut (p : Port) (tag : Nat) (f : Fields AmendArgs)
  /-- WITHDRAW_CUT (R70): the roll number. -/
  | withdrawCut (p : Port) (tag : Nat) (f : Fields Nat)
  /-- LAYOUT_BEGIN (R8). -/
  | layoutBegin (p : Port) (tag : Nat) (f : Fields Unit)
  /-- LAYOUT_POINT (R9). -/
  | layoutPoint (p : Port) (tag : Nat) (f : Fields PointItem)
  /-- LAYOUT_TRACK (R9). -/
  | layoutTrack (p : Port) (tag : Nat) (f : Fields TrackItem)
  /-- LAYOUT_SENSOR (R9). -/
  | layoutSensor (p : Port) (tag : Nat) (f : Fields SensorItem)
  /-- LAYOUT_YARD (R9). -/
  | layoutYard (p : Port) (tag : Nat) (f : Fields YardItem)
  /-- LAYOUT_COMMIT (R11). -/
  | layoutCommit (p : Port) (tag : Nat) (f : Fields Unit)
  /-- LAYOUT_ABANDON (R10). -/
  | layoutAbandon (p : Port) (tag : Nat) (f : Fields Unit)
  /-- COMMIT_WRITE_END (R13): whether the copy reads back valid. -/
  | commitWriteEnd (readsBack : Bool)
  /-- START_HUMPING (R18). -/
  | startHumping (p : Port) (tag : Nat) (f : Fields Unit)
  /-- STOP_HUMPING (R19). -/
  | stopHumping (p : Port) (tag : Nat) (f : Fields Unit)
  /-- YARD_CLEAR (R21). -/
  | yardClear (p : Port) (tag : Nat) (f : Fields Unit)
  /-- HOLD_HUMP (R174). -/
  | holdHump (p : Port) (tag : Nat) (f : Fields Unit)
  /-- ACCEPT_NEXT (R77): the roll number. -/
  | acceptNext (p : Port) (tag : Nat) (f : Fields Nat)
  /-- BLOCK_POINT (R141). -/
  | blockPoint (p : Port) (tag : Nat) (f : Fields BlockArgs)
  /-- RESTORE_POINT (R142): the point. -/
  | restorePoint (p : Port) (tag : Nat) (f : Fields Nat)
  /-- FREEZE_POINTS (R143), in a REQUEST or an URGENT frame. -/
  | freezePoints (p : Port) (tag : Nat) (urgent : Bool) (f : Fields Unit)
  /-- UNFREEZE (R144). -/
  | unfreeze (p : Port) (tag : Nat) (f : Fields Unit)
  /-- SET_POINT_TIMING (R145). -/
  | setPointTiming (p : Port) (tag : Nat) (f : Fields TimingArgs)
  /-- ACK_FAULT (R37, R140). -/
  | ackFault (p : Port) (tag : Nat) (f : Fields AckTarget)
  /-- ACK_TRACKING (R177). -/
  | ackTracking (p : Port) (tag : Nat) (f : Fields Unit)
  /-- ACK_INTRUSION (R178). -/
  | ackIntrusion (p : Port) (tag : Nat) (f : Fields Unit)
  /-- CLEAR_SECTION (R57): a point, or 0 for "all". -/
  | clearSection (p : Port) (tag : Nat) (f : Fields Nat)
  /-- REROUTE_CUT (R116). -/
  | rerouteCut (p : Port) (tag : Nat) (f : Fields RerouteArgs)
  /-- RECALL_GRANT (R168): the track. -/
  | recallGrant (p : Port) (tag : Nat) (f : Fields Nat)
  /-- SPEED_REPORT (R110). -/
  | speedReport (p : Port) (tag : Nat) (f : Fields SpeedArgs)
  /-- CLOSE_TRACK (R153). -/
  | closeTrack (p : Port) (tag : Nat) (f : Fields Nat)
  /-- OPEN_TRACK (R154). -/
  | openTrack (p : Port) (tag : Nat) (f : Fields Nat)
  /-- PULL_RECORD (R155). -/
  | pullRecord (p : Port) (tag : Nat) (f : Fields TrackValueArgs)
  /-- SET_CAPACITY (R156). -/
  | setCapacity (p : Port) (tag : Nat) (f : Fields TrackValueArgs)
  /-- SET_ALTERNATE (R157). -/
  | setAlternate (p : Port) (tag : Nat) (f : Fields AlternateArgs)
  /-- COPY_GRANT (R162). -/
  | copyGrant (p : Port) (tag : Nat) (f : Fields CopyArgs)
  /-- PASS_GRANT (R163). -/
  | passGrant (p : Port) (tag : Nat) (f : Fields PassArgs)
  /-- TAKE_GRANT (R165): the preferred slot. -/
  | takeGrant (p : Port) (tag : Nat) (f : Fields Nat)
  /-- REFUSE_GRANT (R166). -/
  | refuseGrant (p : Port) (tag : Nat) (f : Fields Unit)
  /-- DROP_GRANT (R167): the slot. -/
  | dropGrant (p : Port) (tag : Nat) (f : Fields Nat)
  /-- UNKNOWN_REQUEST (R185, R186): the code that names no request the frame may carry. -/
  | unknownRequest (p : Port) (tag : Nat) (code : Nat) (urgent : Bool)
  /-- REQUEST_FRAME_RECEIVED (R184): tag, code and payload of the frame. -/
  | requestFrameReceived (p : Port) (tag : Nat) (code : Nat) (payload : List Byte)
  /-- URGENT_FRAME_RECEIVED (R186): tag, code and payload of the frame. -/
  | urgentFrameReceived (p : Port) (tag : Nat) (code : Nat) (payload : List Byte)
  /-- FRAME_DISCARDED (R182). -/
  | frameDiscarded (p : Port)
  /-- INTER_BYTE_TIMEOUT (R182). -/
  | interByteTimeout (p : Port)
  /-- LINE_BREAK_START (R182): a framing error or the start of a break. -/
  | lineBreakStart (p : Port)
  /-- LINE_BREAK_RESET (R192): a break has lasted 10 ms. -/
  | lineBreakReset (p : Port)
  /-- FRAME_SENT (R187). -/
  | frameSent (p : Port)
  /-- NOTICE_GIVEN (R189): the port takes the oldest notice given to it. -/
  | noticeGiven (p : Port)
  /-- HEAD_RAW_EDGE (R25): the raw level of a head of a sensor input. -/
  | headRawEdge (input : Nat) (h : Head) (level : Bool)
  /-- FILTERED_EDGE (R28). -/
  | filteredEdge (sensor : Sensor) (h : Head)
  /-- STANDING_TIMER_EXPIRY (R32). -/
  | standingTimerExpiry (sensor : Sensor) (h : Head)
  /-- GAP_TIMER_EXPIRY (R88). -/
  | gapTimerExpiry
  /-- DWELL_TIMER_EXPIRY (R59). -/
  | dwellTimerExpiry (point : Nat)
  /-- POINT_EVALUATION (R125). -/
  | pointEvaluation (point : Nat)
  /-- DIVERSION_REQUEST (R111). -/
  | diversionRequest (cut : CutId) (point : Nat) (cause : RequestCause) (outlet : Pos)
  /-- DETECTION_INPUT_EDGE (R124): the raw level of a detection input of a channel. -/
  | detectionInputEdge (channel : Nat) (which : Pos) (level : Bool)
  /-- DETECTION_EVENT (R124). -/
  | detectionEvent (point : Nat)
  /-- THROW_TIMEOUT (R132). -/
  | throwTimeout (point : Nat)
  /-- STAGED_RECORD_LEFT (R72). -/
  | stagedRecordLeft
  /-- TRACK_STATE_REPORT (R149): the track whose change is taken. -/
  | trackStateReport (track : Nat)
  /-- BYTE_RECEIVED (R182). -/
  | byteReceived (p : Port) (b : Byte)
  /-- POWER_LOSS (R13). -/
  | powerLoss
  deriving DecidableEq, Repr

end Sys2Proof
end

