-- ==== Sys2Proof/Decode.lean ====
section
/-! DEFINITION. Decode.lean: the command a word of spec/opcode_table.json spells. The payload encodings of the master lines
(R181) are read in Machine/Operands.lean. -/

namespace Sys2Proof

/-- No row of the table gives bits, so no word spells a command. -/
def decodeTableWord (_nbits _w : Nat) : Option Instr := none

end Sys2Proof
end

