-- ==== Sys2Proof/Machine/State.lean ====
section
/-! DEFINITION. State.lean: every piece of state the manual gives the PX-63, as plain data; answers and notices as
data; the state right after reset. -/

namespace Sys2Proof.Machine

/-! ### Layout Store (chapter 1) -/

/-- Yard mode (section 1.5). -/
inductive Mode where
  | setup | standby | active | draining
  deriving DecidableEq, Repr

/-- The items of a layout or of a load (R2, R4, R5, R6); items of each kind stand in ascending object number. -/
structure Layout where
  points : List PointItem
  tracks : List TrackItem
  sensors : List SensorItem
  yard : Option YardItem
  deriving DecidableEq, Repr

/-- The layout under load (R7): NONE, OPEN, or WRITING since the clock value given. -/
inductive Load where
  | absent
  | opened (owner : Port) (items : Layout)
  | writing (owner : Port) (items : Layout) (since : Nat)
  deriving DecidableEq, Repr

/-- The stored copy: a layout and whether the check word agrees with it (R7). -/
structure Store where
  layout : Layout
  valid : Bool
  deriving DecidableEq, Repr

/-- Cause of a MODE notice (R22). -/
inductive ModeCause where
  | powerOn | commit | start | stop | drained | yardClear
  deriving DecidableEq, Repr

/-- Kind of the offending item of a failed check (R11). -/
inductive ItemKind where
  | point | track | sensor | yard | none
  deriving DecidableEq, Repr

/-! ### Sensor Front End (chapter 2) -/

/-- Condition of a sensor (R23). -/
inductive Condition where
  | normal | standing | disturbed
  deriving DecidableEq, Repr

/-- Phase of a sensor's sequence (R23). -/
inductive Phase where
  | idle | aFirst | bFirst
  deriving DecidableEq, Repr

/-- A head's standing timer; RUNNING keeps the clock value of its start, `expired` that it has run out (R32). -/
inductive StandTimer where
  | stopped
  | running (since : Nat)
  | expired
  deriving DecidableEq, Repr

/-- A raw change of level and the clock value of its raw edge, waiting to become a qualified change (R25, R124). -/
structure RawChange where
  level : Bool
  edge : Nat
  deriving DecidableEq, Repr

/-- One head: filtered level, raw changes not yet taken as filtered edges, standing timer (R23, R25). -/
structure HeadRec where
  level : Bool
  owed : List RawChange
  timer : StandTimer
  deriving DecidableEq, Repr

/-- A sensor record (R23). Onset times are clock values (R26). The filter is in hundredths of a millisecond. -/
structure SensorRec where
  sensor : Sensor
  filter : Nat
  spacing : Nat
  condition : Condition
  phase : Phase
  settling : Bool
  a : HeadRec
  b : HeadRec
  first : Option Nat
  second : Option Nat
  disturb : Nat
  deriving DecidableEq, Repr

/-- Direction of a pass (R29). -/
inductive Direction where
  | forward | backward
  deriving DecidableEq, Repr

/-- A pass handed on (R31); a speed that is absent is "not measured". -/
structure Pass where
  sensor : Sensor
  dir : Direction
  speed : Option Nat
  time : YardTime
  deriving DecidableEq, Repr

/-! ### Zone Tracker (chapter 3) -/

/-- An occupant of a section (R40). -/
inductive Occupant where
  | cut (c : CutId)
  | unidentified
  deriving DecidableEq, Repr

/-- An entry of an occupancy list (R40). -/
structure OccEntry where
  occ : Occupant
  count : Nat
  deriving DecidableEq, Repr

/-- Dwell state with the dwell start, absent while STOPPED (R39). -/
inductive Dwell where
  | stopped
  | running (start : YardTime)
  | expired (start : YardTime)
  deriving DecidableEq, Repr

/-- An item of an exit register (R39). -/
structure ExitItem where
  cut : CutId
  outlet : Pos
  deriving DecidableEq, Repr

/-- A section record, named by its point; the occupancy list stands head first (R39). -/
structure SectionRec where
  point : Nat
  proven : Bool
  occ : List OccEntry
  dwell : Dwell
  exits : List ExitItem
  deriving DecidableEq, Repr

/-- Cause of a CUT MOVING notice (R60). -/
inductive MovingCause where
  | pass | headChanged | cleared
  deriving DecidableEq, Repr

/-- Cause of an UNIDENTIFIED AXLE notice of the Crest Tracker (R97). -/
inductive AxleCause where
  | overlengthLimit | fragmentLimit | noRoom | noStagedCut
  deriving DecidableEq, Repr

/-- The kinds of TRACKING FAULT with what they carry (R38, R61, R97). `left` absent stands for the crest. -/
inductive TrackingFault where
  | sensorDisturbed (s : Sensor)
  | unidentifiedAxle (s : Sensor) (dir : Direction) (left : Option Nat) (cause : Option AxleCause)
      (short : Option (CutId × Nat))
  | splitCut (s : Sensor) (point : Nat) (cut : CutId) (register : Pos) (taken : Pos)
  | crowded (s : Sensor) (point : Nat) (axle : Occupant) (tail : Occupant)
  | trackUnderrun (s : Sensor) (track : Nat)
  deriving DecidableEq, Repr

/-! ### Roll List, Crest Tracker and Route Planner (chapters 4, 5, 6) -/

/-- Class of a cut (R63). -/
inductive CutClass where
  | normal | restricted
  deriving DecidableEq, Repr

/-- A PLANNED entry (R63). -/
structure PlannedEntry where
  roll : Nat
  axles : Nat
  track : Nat
  cls : CutClass
  tag : Option (List Nat)
  port : Port
  deriving DecidableEq, Repr

/-- Crest state (R82). -/
inductive CrestPhase where
  | idle | forming | separating
  deriving DecidableEq, Repr

/-- The Crest Tracker (R82). The gap timer is its expiry, absent when STOPPED. The last axle speed is absent, or a
speed, or "not measured" (the inner absence). -/
structure Crest where
  phase : CrestPhase
  current : Option Occupant
  countdown : Nat
  overlength : Nat
  lastTime : Option YardTime
  lastSpeed : Option (Option Nat)
  gap : Option YardTime
  deriving DecidableEq, Repr

/-- State of a cut record (R99). -/
inductive CutState where
  | staged | forming | rolling
  deriving DecidableEq, Repr

/-- Route status (R99). -/
inductive RouteStatus where
  | asPlanned | alternate | diverted | rerouted
  deriving DecidableEq, Repr

/-- Path end (R99, R101). -/
inductive PathEnd where
  | track | opened
  deriving DecidableEq, Repr

/-- A step of a path, and a (point, position) pair wherever one is named (R101). -/
structure Step where
  point : Nat
  pos : Pos
  deriving DecidableEq, Repr

/-- A head report (R104). -/
structure HeadReport where
  sensor : Sensor
  speed : Option Nat
  time : YardTime
  deriving DecidableEq, Repr

/-- A speed report (R110). -/
structure SpeedRec where
  point : Nat
  speed : Nat
  deriving DecidableEq, Repr

/-- A cut record (R99). -/
structure CutRec where
  id : CutId
  state : CutState
  stalled : Bool
  cls : CutClass
  accepted : Bool
  port : Port
  planned : Nat
  tag : Option (List Nat)
  dest : Nat
  status : RouteStatus
  expected : Nat
  counted : Nat
  held : Nat
  arrived : Nat
  merged : List Nat
  path : List Step
  pathEnd : PathEnd
  frontier : Option Nat
  head : Option HeadReport
  speed : Option SpeedRec
  released : Option YardTime
  deriving DecidableEq, Repr

/-- A demand (R102). -/
structure Demand where
  cut : CutId
  pos : Pos
  toe : Option YardTime
  deriving DecidableEq, Repr

/-- The demand queue of a point (R102). -/
structure DemandQueue where
  point : Nat
  entries : List Demand
  deriving DecidableEq, Repr

/-- Event of a CUT STAGED notice (R81). -/
inductive StagedEvent where
  | staged | rePlanned | returned | withdrawn
  deriving DecidableEq, Repr

/-- Cause of a CUT DIVERTED notice (R122). -/
inductive DivertCause where
  | catchUp | late | blocked | diverged | reroute
  deriving DecidableEq, Repr

/-! ### Point Control (chapter 7) -/

/-- Fault cause of a point (R123). -/
inductive FaultCause where
  | throwTimeout | detectionLost | detectionConflict | runIn | disagreesWithAxles
  deriving DecidableEq, Repr

/-- State of a point with the fields present in it (R123). -/
inductive PointState where
  | locked (p : Pos)
  | throwing (target : Pos) (start : YardTime)
  | fault (cause : FaultCause)
  deriving DecidableEq, Repr

/-- A detection input: qualified level and raw changes not yet qualified (R124). -/
structure DetInput where
  level : Bool
  owed : List RawChange
  deriving DecidableEq, Repr

/-- What a detection pair shows (R124). -/
inductive Pair where
  | alone (p : Pos)
  | neither
  | both
  deriving DecidableEq, Repr

/-- Pending timing (R145). -/
structure Timing where
  allowance : Nat
  timeout : Nat
  deriving DecidableEq, Repr

/-- A point record (R123). Topology and lengths stand in the active layout. -/
structure PointRec where
  num : Nat
  state : PointState
  last : Option Pos
  detN : DetInput
  detR : DetInput
  blocked : Option Pos
  runIn : Bool
  measured : Option Nat
  timing : Timing
  pendingTiming : Option Timing
  driveN : Bool
  driveR : Bool
  deriving DecidableEq, Repr

/-- How a throw ended (R136). -/
inductive ThrowEnd where
  | detected | timeout | conflict
  deriving DecidableEq, Repr

/-- Event of a POINT STATE notice with what it also carries (R147). -/
inductive PointEvent where
  | throwStarted (start : YardTime)
  | locked (measured : Option Nat) (slow : Bool)
  | fault (ended : Option ThrowEnd) (axles : Option ExitItem)
  | runIn (cut : CutId)
  | acknowledged (pair : Pair)
  | blocked
  | restored
  | freeze
  | unfreeze
  deriving DecidableEq, Repr

/-- What a POINT STATE notice shows of a point (R147). -/
structure PointView where
  state : PointState
  lie : Pos
  last : Option Pos
  blocked : Option Pos
  runIn : Bool
  deriving DecidableEq, Repr

/-! ### Track Table and Custody Unit (chapter 8) -/

/-- State of a track (R148). -/
inductive TrackState where
  | opened | full | closing | closed
  deriving DecidableEq, Repr

/-- A track record (R148). -/
structure TrackRec where
  num : Nat
  state : TrackState
  fill : Nat
  capacity : Nat
  alternate : Option Nat
  committed : Nat
  lastArrived : Option CutId
  holder : Port
  notifyCopy : Bool
  notifyPass : Bool
  deriving DecidableEq, Repr

/-- Cause of a TRACK STATE notice (R158). -/
inductive TrackCause where
  | axle | close | open | intrusion | committedZero | arrival | pull | capacity | alternate
  deriving DecidableEq, Repr

/-- A set of rights (R160). -/
structure Rights where
  assign : Bool
  close : Bool
  relay : Bool
  deriving DecidableEq, Repr

/-- A grant (R160). -/
structure Grant where
  track : Nat
  rights : Rights
  creator : Port
  deriving DecidableEq, Repr

/-- Kind of an inbound entry, and of a GRANT OFFER (R160, R164). -/
inductive OfferKind where
  | passed | copied | returned
  deriving DecidableEq, Repr

/-- An inbound queue entry (R160). -/
structure Inbound where
  grant : Grant
  sender : Port
  kind : OfferKind
  deriving DecidableEq, Repr

/-- A port's grant table, slot 1 first, and inbound queue, oldest first (R160); the Speed port's table has no slot. -/
structure Custody where
  slots : List (Option Grant)
  inbound : List Inbound
  deriving DecidableEq, Repr

/-- Event of a GRANT NOTE (R164). -/
inductive NoteEvent where
  | copied | passed | recalled
  deriving DecidableEq, Repr

/-- Where a track's CLOSE grant stands: a slot of a table or a place of a queue (R159), both counted from 1; that the oldest entry
of a queue is at place 1 is the model's choice (log entry 59). -/
inductive GrantPlace where
  | table (p : Port) (slot : Nat)
  | queue (p : Port) (place : Nat)
  deriving DecidableEq, Repr

/-! ### Hold Unit (chapter 9) -/

/-- The twelve hold reasons, in the order of the table of R171. -/
inductive HoldReason where
  | operator | urgent | listEmpty | nextUnroutable | capacity | nextRestricted
  | stall | runIn | pointFault | trackingFault | intrusion | unproven
  deriving DecidableEq, Repr

/-- The blocks that may be the source of an update, in the order of R179. -/
inductive Block where
  | layoutStore | sensorFrontEnd | zoneTracker | crestTracker | rollList | routePlanner | pointControl
  deriving DecidableEq, Repr

/-- Source of an update of the hold set: a request and its port, or a block (R179). -/
inductive HoldSource where
  | request (code : Nat) (p : Port)
  | block (b : Block)
  deriving DecidableEq, Repr

/-- One raise or clear handed to the Hold Unit (R172, R175, R176). -/
inductive HoldOp where
  | raise (r : HoldReason)
  | clear (r : HoldReason)
  | addUrgent (p : Port)
  | removeUrgent (p : Port)
  deriving DecidableEq, Repr

/-- A raise or clear with the source that handed it over. -/
structure HoldClaim where
  source : HoldSource
  op : HoldOp
  deriving DecidableEq, Repr

/-- The hold reason set: present reasons in table order with the time each was raised, and the ports of URGENT in
port order (R171). -/
structure HoldSet where
  present : List (HoldReason × YardTime)
  urgent : List Port
  deriving DecidableEq, Repr

/-! ### Answers and notices -/

/-- Status codes in the order of R195. -/
inductive Status where
  | done | busy | denied | noRight | badValue | noSuch | wrongMode | tooLate | full | conflict
  deriving DecidableEq, Repr

/-- Names the field an ENTER CUT answer blames (R65). -/
inductive EnterField where
  | roll | axles | track | cls | tag
  deriving DecidableEq, Repr

/-- An item of READ LIST; the last field is present for a STAGED item (R71). -/
structure ListItem where
  roll : Nat
  axles : Nat
  track : Nat
  cls : CutClass
  tag : Option (List Nat)
  port : Port
  staged : Option (Nat × RouteStatus × Option Bool)
  deriving DecidableEq, Repr

/-- A path step of READ CUT: whether a demand stands for it, and that demand's toe time (R121). -/
structure StepView where
  step : Step
  demand : Option (Option YardTime)
  deriving DecidableEq, Repr

/-- A boundary sensor of READ SECTION (R62). -/
structure SensorView where
  sensor : Sensor
  condition : Condition
  disturb : Nat
  deriving DecidableEq, Repr

/-- State of the load as READ PORT gives it (R194). -/
inductive LoadState where
  | none | opened | writing
  deriving DecidableEq, Repr

/-- The seven notice classes as a set (R188). -/
structure ClassMask where
  route : Bool
  passage : Bool
  point : Bool
  track : Bool
  hold : Bool
  grant : Bool
  fault : Bool
  deriving DecidableEq, Repr

/-- The fields of an answer beside its status. Each constructor names the rules that give it. -/
inductive AnswerData where
  /-- No fields. -/
  | nothing
  /-- Offset of the first byte that does not fit (R185). -/
  | offset (n : Nat)
  /-- The number of the failed check and the item to blame (R11, R13). -/
  | check (number : Nat) (kind : ItemKind) (item : Nat)
  /-- The field to blame, with the floor where R65 gives it. -/
  | field (f : EnterField) (floor : Option Nat)
  /-- A count (R66, R162, R163), a slot (R168) or a fill (R155). -/
  | number (n : Nat)
  /-- A track or a roll number to blame (R67, R77, R165, R167). -/
  | track (t : Nat)
  | roll (n : Nat)
  /-- State PLANNED or STAGED (R67, R68, R70). -/
  | planState (staged : Bool)
  /-- A sensor to blame (R57). -/
  | sensor (s : Sensor)
  /-- A point to blame (R57). -/
  | point (n : Nat)
  /-- Identified and UNIDENTIFIED axles removed (R57). -/
  | cleared (identified unidentified : Nat)
  /-- The new path (R117). -/
  | path (steps : List Step)
  /-- Point state alone, lie position, what the pair shows (R140). -/
  | pointState (s : PointState)
  | position (p : Pos)
  | pair (p : Pair)
  /-- Resulting state and lie; whether the block is served (R141, R142). -/
  | blocked (s : PointState) (lie : Pos) (served : Bool)
  | restored (s : PointState) (lie : Pos)
  /-- ACTIVE or PENDING (R145). -/
  | timing (active : Bool)
  /-- Track state, and with the committed count where R153 gives it. -/
  | trackState (s : TrackState)
  | closing (s : TrackState) (committed : Nat)
  /-- Fill before and after (R155). -/
  | fills (before after : Nat)
  /-- Slot, track, rights in the slot, kind and sender (R165). -/
  | taken (slot : Nat) (track : Nat) (rights : Rights) (kind : OfferKind) (sender : Port)
  /-- Slot, former holder, and whether the grant came from a table (R168). -/
  | recalled (slot : Nat) (former : Port) (fromTable : Bool)
  /-- The hold reason set after the update (R174 to R178). -/
  | holds (h : HoldSet)
  /-- UNIDENTIFIED entries, axles and the lowest point (R177). -/
  | unidentified (entries axles point : Nat)
  /-- DISTURBED sensors and the first of them (R177). -/
  | disturbed (count : Nat) (first : Sensor)
  /-- Mask before and after (R191). -/
  | masks (before after : ClassMask)
  /-- READ LIST (R71). -/
  | list (floor planned : Nat) (staged : Bool) (items : List ListItem)
  /-- READ CUT (R121). -/
  | cut (c : CutRec) (steps : List StepView)
  /-- READ POINT (R146). -/
  | pointRec (r : PointRec) (item : Option PointItem) (lie : Pos) (pair : Pair) (effective : Nat) (freeze : Bool)
      (head : Option Demand) (empty proven : Bool)
  /-- READ TRACK (R159). -/
  | trackRec (r : TrackRec) (close : Option GrantPlace) (assign : List Port)
  /-- READ SECTION (R62). -/
  | sectionRec (r : SectionRec) (sensors : List SensorView)
  /-- READ PORT (R194). -/
  | port (p : Port) (working waiting urgent : Bool) (answers notices : Nat) (overrun : Bool) (discards : Nat)
      (mask : ClassMask) (inbound : Nat) (mode : Mode) (load : LoadState) (owner : Option Port) (holds : HoldSet)
      (relay : Bool) (time : YardTime)
  /-- READ GRANTS (R170). -/
  | grants (slots : List (Option Grant)) (inbound : List Inbound)
  deriving DecidableEq, Repr

/-- A status with its fields (R195). -/
structure Reply where
  status : Status
  data : AnswerData
  deriving DecidableEq, Repr

/-- An answer (R181, R195). -/
structure Answer where
  tag : Nat
  code : Nat
  reply : Reply
  deriving DecidableEq, Repr

/-- The fields of each notice kind; the rule that lists them is named. -/
inductive NoticeBody where
  /-- MODE (R22). -/
  | mode (now : Mode) (before : Option Mode) (cause : ModeCause)
  /-- SENSOR STATE (R38). -/
  | sensorState (s : Sensor) (now before : Condition) (count : Nat)
  /-- TRACKING FAULT (R38, R61, R97). -/
  | trackingFault (f : TrackingFault)
  /-- CUT STALLED (R59). -/
  | cutStalled (point : Nat) (occ : Occupant) (count : Nat)
  /-- CUT MOVING (R60). -/
  | cutMoving (point : Nat) (occ : Occupant) (cause : MovingCause)
  /-- CUT STAGED (R81); the last field is present for STAGED and RE-PLANNED. -/
  | cutStaged (cut : CutId) (event : StagedEvent) (expected planned : Nat) (cls : CutClass) (tag : Option (List Nat))
      (port : Port) (route : Option (Nat × RouteStatus × Nat))
  /-- CUT RELEASED (R97). -/
  | cutReleased (cut : CutId) (expected dest : Nat) (status : RouteStatus) (cls : CutClass) (unaccepted : Bool)
      (tag : Option (List Nat)) (speed : Option Nat) (released : YardTime)
  /-- CUT MERGED (R97); `roll` absent stands for NO ROLL. -/
  | cutMerged (cut : CutId) (roll givenUp : Option Nat) (expected merged : Nat) (unaccepted : Bool)
  /-- CUT FRAGMENT (R97). -/
  | cutFragment (short : CutId) (counted : Nat) (frag : CutId) (expected dest gap : Nat)
  /-- CUT DIVERTED (R122); `step` names the point and outlet, absent for a STAGED reroute. -/
  | cutDiverted (cut : CutId) (cause : DivertCause) (step : Option Step) (old new : Nat) (status : RouteStatus)
      (steps : Nat) (pathEnd : PathEnd)
  /-- CUT ARRIVED (R120). -/
  | cutArrived (cut : CutId) (dest held arrived expected : Nat) (merged : List Nat) (reached : Bool)
  /-- CUT PASSAGE (R122); `left` is the point and outlet for an outlet sensor; `frontier` absent is "in track". -/
  | cutPassage (cut : CutId) (s : Sensor) (speed : Option Nat) (left : Option Step) (zone : Target)
      (frontier : Option Nat) (passTime : YardTime)
  /-- POINT STATE (R147). -/
  | pointState (point : Option Nat) (event : PointEvent) (view : Option PointView)
  /-- TRACK STATE (R158). -/
  | trackState (track : Nat) (cause : TrackCause) (now before : TrackState) (fill capacity committed : Nat)
      (alternate : Option Nat) (arrival : Option (CutId × Nat)) (fillBefore : Option Nat)
  /-- HOLD STATE (R179). -/
  | holdState (set : HoldSet) (raised cleared : List HoldReason) (added removed : List Port) (relay switched : Bool)
      (mode : Mode) (source : HoldSource)
  /-- GRANT OFFER (R164). -/
  | grantOffer (goal : Port) (kind : OfferKind) (grant : Grant) (sender : Port) (length : Nat)
  /-- GRANT NOTE (R164). -/
  | grantNote (goal : Port) (event : NoteEvent) (track : Nat) (rights : Rights) (acting goes : Port)
      (fromTable : Option Bool)
  /-- OVERRUN (R190). -/
  | overrun (count : Nat)
  deriving DecidableEq, Repr

/-- A notice with the yard time at which it was produced (Conventions). -/
structure Notice where
  time : YardTime
  body : NoticeBody
  deriving DecidableEq, Repr

/-! ### Port Controllers (chapter 10) -/

/-- What a queued answer counts as (R187). -/
inductive AnswerKind where
  | ordinary | urgent | busy
  deriving DecidableEq, Repr

/-- An answer in an answer queue (R187). -/
structure QueuedAnswer where
  kind : AnswerKind
  answer : Answer
  deriving DecidableEq, Repr

/-- The working slot's request: held or taken (R180), and whether a reset has its answer discarded (R192). -/
structure Working where
  cmd : Instr
  taken : Bool
  discard : Bool
  deriving DecidableEq, Repr

/-- A receiver: HUNTING when `buf` is empty, else IN FRAME with the bytes gathered from the start byte on; bytes that
follow a whole frame not yet taken wait in `backlog` (R182). -/
structure Receiver where
  buf : List Byte
  backlog : List Byte
  lastByte : Nat
  deriving DecidableEq, Repr

/-- A frame the transmitter sends (R187). -/
inductive OutFrame where
  | answer (a : Answer)
  | notice (n : Notice)
  deriving DecidableEq, Repr

/-- A Port Controller (R180). -/
structure PortState where
  rx : Receiver
  working : Option Working
  waiting : Option Instr
  urgent : Option Instr
  answers : List QueuedAnswer
  notices : List Notice
  mask : ClassMask
  overrun : Bool
  discards : Nat
  line : Option OutFrame
  given : List Notice
  deriving DecidableEq, Repr

/-- One value for each port. -/
structure PerPort (α : Type) where
  planning : α
  crest : α
  speed : α
  bowl : α
  deriving DecidableEq, Repr

/-! ### Work between blocks -/

/-- An evaluation that is due; `afterThrow` when it follows the end of a throw (R125, R128). -/
structure EvalDue where
  point : Nat
  afterThrow : Bool
  deriving DecidableEq, Repr

/-- A diversion request given to the Route Planner (R129). -/
structure DivReq where
  cut : CutId
  point : Nat
  cause : RequestCause
  outlet : Pos
  deriving DecidableEq, Repr

/-- The state of the PX-63. -/
structure State where
  /-- Commands waiting, first in, first out. -/
  pending : List Instr
  /-- The supply is on (R13, R16). -/
  powered : Bool
  /-- Hundredths of a millisecond since power-on (R26). -/
  clock : Nat
  /-- MODEL'S OWN: how many free values have been used (log entry 12). -/
  freeCount : Nat
  /-- Heads whose raw signal is on, by input number (R1, R25). -/
  headPins : List (Nat × Head)
  /-- Detection inputs whose raw signal is on, by channel (R1, R124). -/
  detPins : List (Nat × Pos)
  /-- Yard mode. -/
  mode : Mode
  /-- Active layout (R7). -/
  active : Option Layout
  /-- Layout under load (R7). -/
  load : Load
  /-- Stored copy (R7). -/
  store : Store
  /-- Sensor records (R23). -/
  sensors : List SensorRec
  /-- Section records (R39). -/
  sections : List SectionRec
  /-- Crest Tracker (R82). -/
  crest : Crest
  /-- PLANNED entries, head first (R63). -/
  planned : List PlannedEntry
  /-- Roll number floor (R64). -/
  floor : Nat
  /-- Cut Table (R99). -/
  cuts : List CutRec
  /-- Demand Table (R102). -/
  demands : List DemandQueue
  /-- Point records (R123). -/
  points : List PointRec
  /-- Freeze flag (R123). -/
  freeze : Bool
  /-- Track records (R148). -/
  tracks : List TrackRec
  /-- Grant tables and inbound queues (R160). -/
  custody : PerPort Custody
  /-- Hold reason set (R171). -/
  holds : HoldSet
  /-- HUMP PROCEED energised (R173). -/
  relay : Bool
  /-- Raises and clears handed to the Hold Unit in the event in hand (R172). -/
  holdInbox : List HoldClaim
  /-- Port Controllers (R180). -/
  ports : PerPort PortState
  /-- Evaluations due (R125). -/
  evalDue : List EvalDue
  /-- Diversion requests given (R111). -/
  diversionDue : List DivReq
  /-- Track state changes reported to the Roll List (R149). -/
  trackReportDue : List Nat
  /-- The STAGED record has left STAGED (R72). -/
  stagedLeftDue : Bool
  /-- A record or pool entries have been freed (R72). -/
  freedDue : Bool
  deriving DecidableEq, Repr

/-- Faults. None: the manual gives every command an effect, so no command stops the machine. -/
inductive Fault where
  deriving DecidableEq, Repr

/-- Refusals. -/
inductive Refusal where
  /-- Raised by exec's arm alone, for a command that has no meaning yet; safe. No arm raises it. -/
  | notModelled (mnemonic : String)
  deriving DecidableEq, Repr

/-- The default class masks (R188). -/
def Port.defaultMask : Port → ClassMask
  | .planning => ⟨true, false, false, true, true, true, false⟩
  | .crest => ⟨true, false, true, true, true, true, true⟩
  | .speed => ⟨true, true, false, false, true, false, false⟩
  | .bowl => ⟨true, false, false, true, true, true, false⟩

/-- The receiver HUNTING with nothing gathered (R182). -/
def Receiver.hunting : Receiver := ⟨[], [], 0⟩

/-- A port's state at power-on: the MODE notice of R16 alone in its notice queue (R180). -/
def PortState.atPowerOn (p : Port) (mode : Mode) : PortState :=
  { rx := Receiver.hunting, working := none, waiting := none, urgent := none, answers := [],
    notices := [⟨0, .mode mode none .powerOn⟩], mask := Port.defaultMask p, overrun := false, discards := 0,
    line := none, given := [] }

/-- The Crest Tracker's values of R82. -/
def Crest.idle : Crest :=
  { phase := .idle, current := none, countdown := 0, overlength := 0, lastTime := none, lastSpeed := none, gap := none }

/-- No item of any kind (R8). -/
def Layout.empty : Layout := ⟨[], [], [], none⟩

/-- An empty grant table of 16 slots and an empty inbound queue (R160). -/
def Custody.empty : Custody := ⟨List.replicate Config.grantSlots none, []⟩

/-- The Speed port has neither table nor queue (R160). -/
def Custody.absent : Custody := ⟨[], []⟩

/-- The machine right after reset: a power-on that finds the stored copy invalid (R16). The empty store (log entry 1) and
the input pins off (log entry 13) are design choices. -/
def State.reset : State :=
  { pending := [], powered := true, clock := 0, freeCount := 0, headPins := [], detPins := [],
    mode := .setup, active := none, load := .absent, store := ⟨Layout.empty, false⟩,
    sensors := [], sections := [], crest := Crest.idle, planned := [], floor := 0, cuts := [], demands := [],
    points := [], freeze := false, tracks := [],
    custody := ⟨Custody.empty, Custody.empty, Custody.absent, Custody.empty⟩,
    holds := ⟨[], []⟩, relay := false, holdInbox := [],
    ports := ⟨.atPowerOn .planning .setup, .atPowerOn .crest .setup, .atPowerOn .speed .setup,
      .atPowerOn .bowl .setup⟩,
    evalDue := [], diversionDue := [], trackReportDue := [], stagedLeftDue := false, freedDue := false }

end Sys2Proof.Machine
end

