-- ==== Sys2Proof/Machine/Ops.lean ====
section
/-! DEFINITION. Ops.lean: the named operations over records, queues, notices and due events that every family shares. -/

namespace Sys2Proof.Machine

/-- The other position (Conventions). -/
def otherPos : Pos → Pos
  | .n => .r
  | .r => .n

/-- The four ports in the order of their numbers (R180). -/
def allPorts : List Port := [.planning, .crest, .speed, .bowl]

def PerPort.get {α : Type} (q : PerPort α) : Port → α
  | .planning => q.planning
  | .crest => q.crest
  | .speed => q.speed
  | .bowl => q.bowl

def PerPort.set {α : Type} (q : PerPort α) (p : Port) (a : α) : PerPort α :=
  match p with
  | .planning => { q with planning := a }
  | .crest => { q with crest := a }
  | .speed => { q with speed := a }
  | .bowl => { q with bowl := a }

def PerPort.map {α : Type} (q : PerPort α) (f : α → α) : PerPort α :=
  ⟨f q.planning, f q.crest, f q.speed, f q.bowl⟩

/-- A clock value as a yard time, rounded down to whole milliseconds (R26). -/
def yardOf (clock : Nat) : YardTime := BitVec.ofNat 32 (clock / Config.ticksPerMs)

namespace State

/-- The yard time now (Conventions). -/
def now (s : State) : YardTime := yardOf s.clock

/-! ### Reading and changing one record -/

def point? (s : State) (n : Nat) : Option PointRec := s.points.find? (fun r => r.num == n)
def sectionAt? (s : State) (n : Nat) : Option SectionRec := s.sections.find? (fun r => r.point == n)
def track? (s : State) (n : Nat) : Option TrackRec := s.tracks.find? (fun r => r.num == n)
def cut? (s : State) (c : CutId) : Option CutRec := s.cuts.find? (fun r => r.id == c)
def sensor? (s : State) (x : Sensor) : Option SensorRec := s.sensors.find? (fun r => r.sensor == x)

def modPoint (s : State) (n : Nat) (f : PointRec → PointRec) : State :=
  { s with points := s.points.map (fun r => if r.num == n then f r else r) }
def modSection (s : State) (n : Nat) (f : SectionRec → SectionRec) : State :=
  { s with sections := s.sections.map (fun r => if r.point == n then f r else r) }
def modTrack (s : State) (n : Nat) (f : TrackRec → TrackRec) : State :=
  { s with tracks := s.tracks.map (fun r => if r.num == n then f r else r) }
def modCut (s : State) (c : CutId) (f : CutRec → CutRec) : State :=
  { s with cuts := s.cuts.map (fun r => if r.id == c then f r else r) }
def modSensor (s : State) (x : Sensor) (f : SensorRec → SensorRec) : State :=
  { s with sensors := s.sensors.map (fun r => if r.sensor == x then f r else r) }
def modPort (s : State) (p : Port) (f : PortState → PortState) : State :=
  { s with ports := s.ports.set p (f (s.ports.get p)) }
def modCustody (s : State) (p : Port) (f : Custody → Custody) : State :=
  { s with custody := s.custody.set p (f (s.custody.get p)) }

/-- The STAGED record, if the Cut Table holds one (R63). -/
def staged? (s : State) : Option CutRec := s.cuts.find? (fun r => r.state == .staged)

/-- Some record is FORMING or ROLLING (R19, R20). -/
def hasMoving (s : State) : Bool := s.cuts.any (fun r => r.state != .staged)

/-! ### Notices and reports between blocks -/

/-- A block gives a notice to all four Port Controllers, each of which takes it as an event of its own (R189). -/
def give (s : State) (b : NoticeBody) : State :=
  { s with ports := s.ports.map (fun q => { q with given := q.given ++ [⟨s.now, b⟩] }) }

/-- Hand the Hold Unit a raise or a clear (R172). -/
def claim (s : State) (b : Block) (op : HoldOp) : State :=
  { s with holdInbox := s.holdInbox ++ [⟨.block b, op⟩] }

def raise (s : State) (b : Block) (r : HoldReason) : State := s.claim b (.raise r)
def clear (s : State) (b : Block) (r : HoldReason) : State := s.claim b (.clear r)

/-- A TRACKING FAULT notice, and the reason it raises (R61, R97). -/
def trackingFault (s : State) (b : Block) (f : TrackingFault) : State :=
  (s.give (.trackingFault f)).raise b .trackingFault

/-- An evaluation of a point becomes due (R125). -/
def evaluateLater (s : State) (n : Nat) (afterThrow : Bool) : State :=
  { s with evalDue := s.evalDue ++ [⟨n, afterThrow⟩] }

/-- Point Control gives the Route Planner a request to divert (R129). -/
def askDiversion (s : State) (c : CutId) (n : Nat) (cause : RequestCause) (o : Pos) : State :=
  { s with diversionDue := s.diversionDue ++ [⟨c, n, cause, o⟩] }

/-- The Track Table reports a change of state to the Roll List (R149). -/
def reportTrack (s : State) (t : Nat) : State :=
  { s with trackReportDue := s.trackReportDue ++ [t] }

/-- The Roll List is told that the STAGED record has left STAGED (R72). -/
def stagedLeft (s : State) : State := { s with stagedLeftDue := true }

/-- The Roll List is told that a record or pool entries have been freed (R72). -/
def freed (s : State) : State := { s with freedDue := true }

/-! ### The demand queues as lists (R102) -/

/-- Entries in use across all points (R102). -/
def poolUsed (s : State) : Nat := (s.demands.map (fun q => q.entries.length)).sum

/-- Free entries of the pool (R102). -/
def poolFree (s : State) : Nat := Config.poolSize - s.poolUsed

/-- The queue of a point (R102). -/
def queueOf (s : State) (n : Nat) : List Demand :=
  match s.demands.find? (fun q => q.point == n) with
  | some q => q.entries
  | none => []

/-- The head entry of a point's queue (R103). -/
def headOf (s : State) (n : Nat) : Option Demand := (s.queueOf n).head?

def modQueue (s : State) (n : Nat) (f : List Demand → List Demand) : State :=
  { s with demands := s.demands.map (fun q => if q.point == n then { q with entries := f q.entries } else q) }

end State

/-- Cut order: roll number first, fragment second (Conventions). -/
def CutId.before (a b : CutId) : Bool := a.roll < b.roll || (a.roll == b.roll && a.frag < b.frag)

/-- Insert a demand in cut order; a cut's demand already in place takes the new position (R102). -/
def insertDemand (d : Demand) : List Demand → List Demand
  | [] => [d]
  | e :: es =>
    if e.cut = d.cut then { e with pos := d.pos } :: es
    else if CutId.before d.cut e.cut then d :: e :: es
    else e :: insertDemand d es

/-- A cut's demand at a point (R102). -/
def State.demandOf (s : State) (c : CutId) (n : Nat) : Option Demand :=
  (s.queueOf n).find? (fun d => d.cut == c)

/-- The demands of a cut across all queues. -/
def State.demandCount (s : State) (c : CutId) : Nat :=
  (s.demands.map (fun q => (q.entries.filter (fun d => d.cut == c)).length)).sum

/-- Insert a cut's demand for each of the steps, with no prediction (R74, R102). -/
def State.insertDemands (s : State) (c : CutId) (steps : List Step) : State :=
  steps.foldl (fun s st => s.modQueue st.point (insertDemand ⟨c, st.pos, none⟩)) s

/-- Remove a cut's demand from every queue whose point satisfies `which`; the entries return to the pool. -/
def State.removeDemands (s : State) (c : CutId) (which : Nat → Bool) : State :=
  { s with demands := s.demands.map (fun q =>
      if which q.point then { q with entries := q.entries.filter (fun d => d.cut != c) } else q) }

/-- Remove the first element of a list that equals `a`. -/
def dropFirst {α : Type} [DecidableEq α] (a : α) : List α → List α
  | [] => []
  | x :: xs => if x = a then xs else x :: dropFirst a xs

/-- Replace the element at a place counted from 0. -/
def setAt {α : Type} : List α → Nat → α → List α
  | [], _, _ => []
  | _ :: xs, 0, a => a :: xs
  | x :: xs, n + 1, a => x :: setAt xs n a

/-! ### Replies -/

def Reply.plain (st : Status) : Reply := ⟨st, .nothing⟩
def Reply.done : Reply := Reply.plain .done
def Reply.doneWith (d : AnswerData) : Reply := ⟨.done, d⟩

end Sys2Proof.Machine
end

