-- ==== Sys2Proof/Machine/Flags.lean ====
section
/-! DEFINITION. Flags.lean: the Hold Unit (chapter 9): the hold reasons, how an update of the set is taken, the HUMP
PROCEED output and the HOLD STATE notice. -/

namespace Sys2Proof.Machine

/-- The twelve reasons in the order of the table of R171. -/
def allReasons : List HoldReason :=
  [.operator, .urgent, .listEmpty, .nextUnroutable, .capacity, .nextRestricted, .stall, .runIn, .pointFault,
   .trackingFault, .intrusion, .unproven]

/-- The time a present reason was raised. -/
def HoldSet.timeOf (h : HoldSet) (r : HoldReason) : Option YardTime :=
  (h.present.find? (fun e => e.1 == r)).map (fun e => e.2)

def HoldSet.has (h : HoldSet) (r : HoldReason) : Bool := (h.timeOf r).isSome

/-- No reason is present. -/
def HoldSet.isEmpty (h : HoldSet) : Bool := h.present.isEmpty

/-- One raise or clear, as seen by a list of the reasons wanted and a list of the ports of URGENT (R172, R175, R176).
URGENT is present exactly while a port stands for it, so no raise without a port makes it present (R171). -/
def applyOp (w : List HoldReason × List Port) : HoldOp → List HoldReason × List Port
  | .raise r => (if w.1.contains r || r == .urgent then w.1 else r :: w.1, w.2)
  | .clear r => (w.1.filter (fun x => x != r), if r = .urgent then [] else w.2)
  | .addUrgent p =>
      (if w.1.contains .urgent then w.1 else .urgent :: w.1, allPorts.filter (fun q => q == p || w.2.contains q))
  | .removeUrgent p =>
      let ports := w.2.filter (fun q => q != p)
      (if ports.isEmpty then w.1.filter (fun x => x != .urgent) else w.1, ports)

/-- The set after one update: a reason kept keeps its time, a reason raised takes the time of the update (R172). A reason
cleared and raised again by one update is kept (log entry 54). -/
def HoldSet.update (h : HoldSet) (now : YardTime) (ops : List HoldOp) : HoldSet :=
  let w := ops.foldl applyOp (h.present.map (fun e => e.1), h.urgent)
  { present := allReasons.filterMap (fun r => if w.1.contains r then some (r, (h.timeOf r).getD now) else none),
    urgent := w.2 }

/-- The judgement of R173: energised when the mode is ACTIVE and no reason is present. -/
def relayJudgement (mode : Mode) (h : HoldSet) : Bool := mode == .active && h.isEmpty

/-- The Hold Unit takes one update: the set changes, the relay is judged once, and a HOLD STATE notice follows when the
set changed or the relay switched. A mode change that switches the relay but changes no reason has source Layout Store,
whatever raises and clears that change nothing come with it (R172, R173, R179). -/
def State.holdUpdate (s : State) (src : HoldSource) (ops : List HoldOp) : State :=
  let h := if ops.isEmpty then s.holds else s.holds.update s.now ops
  let source := if h = s.holds then .block .layoutStore else src
  let relay := relayJudgement s.mode h
  let s' := { s with holds := h, relay := relay }
  if h = s.holds ∧ relay = s.relay then s'
  else
    s'.give (.holdState h
      (allReasons.filter (fun r => h.has r && !s.holds.has r))
      (allReasons.filter (fun r => !h.has r && s.holds.has r))
      (allPorts.filter (fun p => h.urgent.contains p && !s.holds.urgent.contains p))
      (allPorts.filter (fun p => !h.urgent.contains p && s.holds.urgent.contains p))
      relay (relay != s.relay) s.mode source)

/-- The sources of the claims, each once, in the order of their first claim. -/
def claimSources (cs : List HoldClaim) : List HoldSource := (cs.map (fun c => c.source)).eraseDups

/-- The Hold Unit takes the claims of the event in hand: as one update under the event's request where it has one, else as
one update for each block that made a claim; a mode change with no claim is judged last, with source Layout Store
(R172, R173, R179; log entry 6). -/
def State.settleHolds (s : State) (src : Option HoldSource) : State :=
  let claims : List HoldClaim := s.holdInbox
  let s0 : State := { s with holdInbox := [] }
  let s1 : State :=
    match src with
    | some r => if claims.isEmpty then s0 else s0.holdUpdate r (claims.map HoldClaim.op)
    | none => (claimSources claims).foldl (fun (u : State) (b : HoldSource) =>
        u.holdUpdate b ((claims.filter (fun c => c.source == b)).map HoldClaim.op)) s0
  s1.holdUpdate (.block .layoutStore) []

end Sys2Proof.Machine
end

