-- ==== Sys2Proof/Machine/Geometry.lean ====
section
/-! DEFINITION. Geometry.lean: what a layout says: sensors, sections, paths, distances and parameters (chapter 1, R101). -/

namespace Sys2Proof.Machine

/-! ### Items (R2 to R6) -/

def itemTarget (i : PointItem) : Pos → Target
  | .n => i.targetN
  | .r => i.targetR

def itemLength (i : PointItem) : Pos → Nat
  | .n => i.lenN
  | .r => i.lenR

/-- Active timing the layout gives a point, with the defaults of R2. -/
def itemTiming (i : PointItem) : Timing := ⟨i.allowance.getD 900, i.timeout.getD 1500⟩

/-- The port a port number names (R180). -/
def portOfNumber : Nat → Option Port
  | 1 => some .planning
  | 2 => some .crest
  | 3 => some .speed
  | 4 => some .bowl
  | _ => none

def portNumber : Port → Nat
  | .planning => 1
  | .crest => 2
  | .speed => 3
  | .bowl => 4

/-- The wheel sensor input that carries a sensor (R1). -/
def inputOf : Sensor → Nat
  | .k => 1
  | .out p .n => 2 * p
  | .out p .r => 2 * p + 1

/-- The sensor an input carries: inputs 1 to 127 (R1). -/
def sensorOfInput (i : Nat) : Option Sensor :=
  if i = 1 then some .k
  else if 2 ≤ i ∧ i ≤ 127 then some (.out (i / 2) (if i % 2 = 0 then .n else .r))
  else none

/-- The filter time of a filter code, in hundredths of a millisecond (R4, R181). -/
def filterTicks : Nat → Nat
  | 0 => 0
  | 1 => 20
  | 2 => 40
  | _ => 80

namespace Layout

def point? (l : Layout) (n : Nat) : Option PointItem := l.points.find? (fun i => i.num == n)
def track? (l : Layout) (n : Nat) : Option TrackItem := l.tracks.find? (fun i => i.num == n)

/-- A sensor belongs to the layout: K, or an outlet sensor of a point that has an item (R3). -/
def hasSensor (l : Layout) : Sensor → Bool
  | .k => true
  | .out p _ => (l.point? p).isSome

/-- The sensors of the layout: K, then Pn-N before Pn-R in ascending n (R3, R12). -/
def sensorNames (l : Layout) : List Sensor :=
  .k :: (l.points.map (fun i => [Sensor.out i.num .n, Sensor.out i.num .r])).flatten

/-- Filter and spacing of a sensor, by default 0.2 ms and 100 mm (R4). -/
def sensorSettings (l : Layout) (x : Sensor) : Nat × Nat :=
  match l.sensors.find? (fun i => i.input == inputOf x) with
  | some i => (filterTicks i.filter, i.spacing)
  | none => (20, 100)

/-! ### Yard parameters (R6) -/

def earlyFactor (l : Layout) : Nat := (l.yard.bind (·.early)).getD 85
def separation (l : Layout) : Nat := (l.yard.bind (·.separation)).getD 250
/-- Standing limit in hundredths of a millisecond; the item gives tenths of a second. -/
def standingTicks (l : Layout) : Nat := (l.yard.bind (·.standing)).getD 20 * 10000
def disturbanceLimit (l : Layout) : Nat := (l.yard.bind (·.disturbance)).getD 3
/-- Dwell limit in milliseconds; the item gives tenths of a second. -/
def dwellMs (l : Layout) : Nat := (l.yard.bind (·.dwell)).getD 300 * 100

/-! ### Topology (R3, R101) -/

/-- The target of a point's outlet. -/
def targetOf (l : Layout) (st : Step) : Option Target := (l.point? st.point).map (fun i => itemTarget i st.pos)

/-- Every outlet, in ascending point number, N before R. -/
def outlets (l : Layout) : List (Step × Target) :=
  (l.points.map (fun i => [((⟨i.num, .n⟩ : Step), i.targetN), (⟨i.num, .r⟩, i.targetR)])).flatten

/-- The outlet that targets a point or a track. -/
def outletTo (l : Layout) (t : Target) : Option Step :=
  (l.outlets.find? (fun e => e.2 == t)).map (fun e => e.1)

def root? (l : Layout) : Option Nat := (l.points.find? (fun i => i.parent == .crest)).map (fun i => i.num)

/-- Steps from the root to an outlet's target: the outlet, then the parents, listed from the root downward. The fuel is the
number of points a path could pass. -/
def climb (l : Layout) : Nat → Target → List Step → List Step
  | 0, _, acc => acc
  | fuel + 1, t, acc =>
    match l.outletTo t with
    | some st => climb l fuel (.point st.point) (st :: acc)
    | none => acc

/-- The path to a track (R101). -/
def pathTo (l : Layout) (t : Nat) : List Step := climb l (l.points.length + 1) (.track t) []

/-- The path to a point, without the point's own step. -/
def pathAbove (l : Layout) (n : Nat) : List Step := climb l (l.points.length + 1) (.point n) []

/-- The steps of a track's path below a point (R113). -/
def pathBelow (l : Layout) (n : Nat) (t : Nat) : List Step :=
  ((l.pathTo t).dropWhile (fun st => st.point != n)).drop 1

/-- A track lies below an outlet: its path passes the point in that position (R101). -/
def isBelow (l : Layout) (st : Step) (t : Nat) : Bool := (l.pathTo t).contains st

/-- The tracks below an outlet, in ascending number (R101). -/
def tracksBelow (l : Layout) (st : Step) : List Nat :=
  (l.tracks.map (fun i => i.num)).filter (fun t => l.isBelow st t)

/-- The entry sensor of a point: K for the root, else the outlet sensor that targets it (R3). -/
def entrySensor (l : Layout) (n : Nat) : Sensor :=
  match l.outletTo (.point n) with
  | some st => .out st.point st.pos
  | none => .k

/-- The boundary sensors of a section: entry sensor, P-N, P-R (R3). -/
def boundary (l : Layout) (n : Nat) : List Sensor := [l.entrySensor n, .out n .n, .out n .r]

/-- The sections a sensor bounds: upstream side first (R35). -/
def sectionsOf (l : Layout) : Sensor → List Nat
  | .k => l.root?.toList
  | .out p o =>
    match l.targetOf ⟨p, o⟩ with
    | some (.point q) => [p, q]
    | _ => [p]

/-- A sensor is on the layout below a point's section, or on one of its outlets (R116, case 4). -/
def sensorAtOrBelow (l : Layout) (n : Nat) : Sensor → Bool
  | .k => false
  | .out p _ => p == n || (l.pathAbove p).any (fun st => st.point == n)

/-! ### Distances (R3, R109) -/

def lengthOf (l : Layout) (st : Step) : Nat :=
  match l.point? st.point with
  | some i => itemLength i st.pos
  | none => 0

def toeOf (l : Layout) (n : Nat) : Nat :=
  match l.point? n with
  | some i => i.toe
  | none => 0

/-- Distance from the entry sensor of the first step to the toe of point `n` lower on the steps (R109). -/
def toeDistance (l : Layout) (n : Nat) : List Step → Nat
  | [] => 0
  | st :: rest => if st.point = n then l.toeOf n else l.lengthOf st + l.toeDistance n rest

end Layout

/-- The active layout; in SETUP there is none and nothing reads this value (R7). -/
def State.layout (s : State) : Layout := s.active.getD Layout.empty

end Sys2Proof.Machine
end

