-- ==== Sys2Proof/Machine/PointOps.lean ====
section
/-! DEFINITION. PointOps.lean: Point Control's decisions: evaluation, throws and their ends, the head at the point
(sections 7.1 to 7.5). -/

namespace Sys2Proof.Machine

/-- The lie of a point (Conventions, R123). -/
def PointRec.lie (r : PointRec) : Pos :=
  match r.state with
  | .locked p => p
  | .throwing t _ => t
  | .fault _ => r.last.getD .n

/-- What two qualified levels show (R124). -/
def showPair (normal reverse : Bool) : Pair :=
  match normal, reverse with
  | true, false => .alone .n
  | false, true => .alone .r
  | false, false => .neither
  | true, true => .both

/-- What the detection pair of a point shows (R124). -/
def PointRec.pair (r : PointRec) : Pair := showPair r.detN.level r.detR.level

/-- Effective allowance: the larger of the active allowance and the last measured throw time plus 100 ms (R126). -/
def PointRec.effective (r : PointRec) : Nat :=
  match r.measured with
  | some m => max r.timing.allowance (m + 100)
  | none => r.timing.allowance

def PointState.isFault : PointState → Bool
  | .fault _ => true
  | _ => false

def PointState.isLocked : PointState → Bool
  | .locked _ => true
  | _ => false

def PointRec.view (r : PointRec) : PointView := ⟨r.state, r.lie, r.last, r.blocked, r.runIn⟩

/-- Switch both drive outputs off. -/
def PointRec.drivesOff (r : PointRec) : PointRec := { r with driveN := false, driveR := false }

namespace State

/-- The lie of a point as Point Control holds it (R101). -/
def lieOf (s : State) (n : Nat) : Pos :=
  match s.point? n with
  | some r => r.lie
  | none => .n

/-- A section is empty when its list is empty (R55). -/
def sectionEmpty (s : State) (n : Nat) : Bool :=
  match s.sectionAt? n with
  | some r => r.occ.isEmpty
  | none => false

def sectionProven (s : State) (n : Nat) : Bool :=
  match s.sectionAt? n with
  | some r => r.proven
  | none => false

/-- "Free to move": section empty, section PROVEN, freeze flag off (R125). -/
def freeToMove (s : State) (n : Nat) : Bool := s.sectionEmpty n && s.sectionProven n && !s.freeze

def anyPointFault (s : State) : Bool := s.points.any (fun r => r.state.isFault)
def anyRunIn (s : State) : Bool := s.points.any (fun r => r.runIn)

/-- A POINT STATE notice for a point as its record stands (R147). -/
def pointNotice (s : State) (n : Nat) (e : PointEvent) : State :=
  s.give (.pointState (some n) e ((s.point? n).map PointRec.view))

/-- POINT FAULT is cleared when a point leaves FAULT and no other is in FAULT (R139). -/
def clearPointFault (s : State) : State := if s.anyPointFault then s else s.clear .pointControl .pointFault

/-- A point goes to FAULT: drives off, POINT STATE notice, POINT FAULT raised (R132, R133, R136 to R139). -/
def toFault (s : State) (n : Nat) (cause : FaultCause) (ended : Option ThrowEnd) (axles : Option ExitItem) : State :=
  ((s.modPoint n (fun r => { r.drivesOff with state := .fault cause })).pointNotice n (.fault ended axles)).raise
    .pointControl .pointFault

/-- A throw of a point toward a target starts (R130). A recovery throw leaves FAULT (R128, R139). -/
def startThrow (s : State) (n : Nat) (t : Pos) : State :=
  let wasFault := match s.point? n with
    | some r => r.state.isFault
    | none => false
  let s' := (s.modPoint n (fun r =>
    { r with state := .throwing t s.now, driveN := t == .n, driveR := t == .r })).pointNotice n (.throwStarted s.now)
  if wasFault then s'.clearPointFault else s'

/-- Pending timing becomes active when the point is LOCKED with its section empty (R145). -/
def takeTiming (s : State) (n : Nat) : State :=
  if s.sectionEmpty n then
    s.modPoint n (fun r =>
      match r.state, r.pendingTiming with
      | .locked _, some t => { r with timing := t, pendingTiming := none }
      | _, _ => r)
  else s

/-- The catch-up test of R126: passed when the remaining time covers the effective allowance and has not run out. -/
def catchUpPassed (now : YardTime) (effective : Nat) : Option YardTime → Bool
  | none => true
  | some t => let rest := YardTime.since t now; effective ≤ rest && rest < 2 ^ 31

/-- R127 from step 2 on: the head demand of a LOCKED point in position `p`. -/
def evaluateDemand (s : State) (r : PointRec) (p : Pos) : State :=
  match s.headOf r.num with
  | none => s
  | some d =>
    if d.pos = p then s
    else if r.blocked = some p then s.askDiversion d.cut r.num .blocked p
    else if !s.freeToMove r.num then s
    else if !catchUpPassed s.now r.effective d.toe then s.askDiversion d.cut r.num .catchUp p
    else s.startThrow r.num d.pos

/-- The head demand is sent the way of a block it does not need (R127 step 1, R128). -/
def divertFromBlock (s : State) (n : Nat) (b : Pos) : State :=
  match s.headOf n with
  | some d => if d.pos = b then s else s.askDiversion d.cut n .blocked b
  | none => s

/-- The evaluation of a LOCKED point (R127). -/
def evaluateLocked (s : State) (r : PointRec) (p : Pos) : State :=
  match r.blocked with
  | some b =>
    if b = p then s.evaluateDemand r p
    else if s.freeToMove r.num then (s.startThrow r.num b).divertFromBlock r.num b
    else s
  | none => s.evaluateDemand r p

/-- The evaluation of a point in FAULT acts toward its block alone: a recovery lock or a recovery throw (R128). -/
def evaluateFault (s : State) (r : PointRec) (afterThrow : Bool) : State :=
  match r.blocked with
  | some b =>
    if r.runIn || !s.freeToMove r.num || afterThrow then s
    else if r.pair = .alone b then
      let s := (s.modPoint r.num (fun r => { r.drivesOff with state := .locked b })).pointNotice r.num (.locked none false)
      let s := (s.clearPointFault).takeTiming r.num
      match s.point? r.num with
      | some r' => s.evaluateDemand r' b
      | none => s
    else (s.startThrow r.num b).divertFromBlock r.num b
  | none => s

/-- One evaluation of a point (R125, R127, R128). -/
def evaluate (s : State) (n : Nat) (afterThrow : Bool) : State :=
  match s.point? n with
  | none => s
  | some r =>
    match r.state with
    | .locked p => s.evaluateLocked r p
    | .throwing _ _ => s
    | .fault _ => s.evaluateFault r afterThrow

/-- The run-in mark is set: when it was clear, the RUN-IN reason and a POINT STATE notice (R135, R137, R139). -/
def markRunIn (s : State) (r : PointRec) (c : CutId) : State :=
  if r.runIn then s
  else ((s.modPoint r.num (fun r => { r with runIn := true })).raise .pointControl .runIn).pointNotice r.num (.runIn c)

/-- R135: the throw is not expected to be proved before the head reaches the toe. -/
def threatened (toe effective elapsed : Nat) : Option Nat → Bool
  | none => true
  | some v => effective ≤ elapsed || toe * 1000 / v < effective - elapsed

/-- Point Control's answer to an entry report: the outlet of a LATE diversion, or none (R134, R135). -/
def entryReport (s : State) (c : CutId) (n : Nat) (y : Option Pos) (speed : Option Nat) (time : YardTime) :
    State × Option Pos :=
  match s.point? n with
  | none => (s, none)
  | some r =>
    match r.state with
    | .locked p =>
      match y with
      | some y => (s, if y = p then none else some p)
      | none => (s, none)
    | .fault _ => (s, none)
    | .throwing t start =>
      let danger := threatened (s.layout.toeOf n) r.effective (YardTime.since time start) speed
      match y with
      | some y =>
        if y = t then (if danger then s.markRunIn r c else s, none)
        else (s.markRunIn r c, some t)
      | none => (if danger then s.markRunIn r c else s, none)

/-- The report that a cut's head left a point by outlet `o` while its path held the other position (R137). -/
def divergenceReport (s : State) (c : CutId) (n : Nat) (o : Pos) : State :=
  match s.point? n with
  | none => s
  | some r =>
    match r.state with
    | .locked p => if p = o then s else s.toFault n .disagreesWithAxles none (some ⟨c, o⟩)
    | .throwing _ _ => s.markRunIn r c
    | .fault _ => s

/-- A throw ends in FAULT: RUN-IN when the mark is set, else the cause of its end (R132, R133, R136). -/
def endThrowFault (s : State) (r : PointRec) (cause : FaultCause) (ended : ThrowEnd) : State :=
  (s.toFault r.num (if r.runIn then .runIn else cause) (some ended) none).evaluateLater r.num true

/-- A throw ends by lock: the measured throw time is taken; the point is LOCKED, or in FAULT when its run-in mark is set
(R131, R136). SLOW is measured against the allowance of this throw. -/
def endThrowLock (s : State) (r : PointRec) (t : Pos) (start time : YardTime) : State :=
  let m := YardTime.since time start
  let s := s.modPoint r.num (fun r => { r with measured := some m })
  if r.runIn then s.endThrowFault r .runIn .detected
  else
    let s := s.modPoint r.num (fun r => { r.drivesOff with state := .locked t })
    let s := s.pointNotice r.num (.locked (some m) (80 * r.timing.allowance < m * 100))
    (s.takeTiming r.num).evaluateLater r.num true

/-- A detection event, with the pair as it stands after the change; `time` is the moment it qualified (R124, R131, R133,
R138). -/
def detectionEvent (s : State) (n : Nat) (time : YardTime) : State :=
  let s := s.modPoint n (fun r =>
    match r.pair with
    | .alone p => { r with last := some p }
    | _ => r)
  match s.point? n with
  | none => s
  | some r =>
    match r.state, r.pair with
    | .throwing t start, .alone p => if p = t then s.endThrowLock r t start time else s
    | .throwing _ _, .both => s.endThrowFault r .detectionConflict .conflict
    | .throwing _ _, .neither => s
    | .locked p, .alone q => if q = p then s else s.toFault n .detectionLost none none
    | .locked _, .neither => s.toFault n .detectionLost none none
    | .locked _, .both => s.toFault n .detectionConflict none none
    | .fault _, _ => s

/-- A section report that brings an evaluation: the section has become empty, or PROVEN. A LOCKED point whose section is empty takes
its pending timing first, also when the section has only become PROVEN (R55, R125, R145; log entry 22). -/
def sectionReport (s : State) (n : Nat) : State := (s.takeTiming n).evaluateLater n false

end State

end Sys2Proof.Machine
end

