-- ==== Sys2Proof/Machine/TrackOps.lean ====
section
/-! DEFINITION. TrackOps.lean: the Track Table's work on reports from other blocks: state changes, fill and commitment
(sections 8.2, 8.3, R158). -/

namespace Sys2Proof.Machine

/-- A track of the layout is OPEN (R73, R112). -/
def State.trackOpen (s : State) (t : Nat) : Bool :=
  match s.track? t with
  | some r => r.state == .opened
  | none => false

/-- A change of a track record: a TRACK STATE notice when the state changes or the event always brings one, and a report
to the Roll List when the state changes (R149, R158). -/
def State.changeTrack (s : State) (t : Nat) (cause : TrackCause) (always : Bool) (arrival : Option (CutId × Nat))
    (fillBefore : Option Nat) (f : TrackRec → TrackRec) : State :=
  match s.track? t with
  | none => s
  | some r =>
    let r' := f r
    let s := s.modTrack t (fun _ => r')
    let s := if always || r'.state != r.state then
        s.give (.trackState t cause r'.state r.state r'.fill r'.capacity r'.committed r'.alternate arrival fillBefore)
      else s
    if r'.state != r.state then s.reportTrack t else s

/-- OPEN and FULL follow fill and capacity; CLOSING and CLOSED stay (R149, R150). -/
def judgeFill (r : TrackRec) : TrackRec :=
  match r.state with
  | .opened => if r.capacity ≤ r.fill then { r with state := .full } else r
  | .full => if r.fill < r.capacity then { r with state := .opened } else r
  | _ => r

/-- A forward axle into the track (R150). -/
def State.fillUp (s : State) (t : Nat) : State :=
  s.changeTrack t .axle false none none (fun r => judgeFill { r with fill := min (r.fill + 1) Config.fillLimit })

/-- A backward axle out of the track; a fill of 0 stays 0 (R52, R150). -/
def State.fillDown (s : State) (t : Nat) : State :=
  s.changeTrack t .axle false none none (fun r => judgeFill { r with fill := r.fill - 1 })

/-- A rise of the committed count: a CLOSED track becomes CLOSING (R151). -/
def State.commitRise (s : State) (t : Nat) : State :=
  s.changeTrack t .intrusion false none none (fun r =>
    { r with committed := r.committed + 1, state := if r.state = .closed then .closing else r.state })

/-- A fall of the committed count: a CLOSING track whose count reaches 0 becomes CLOSED. A retirement always brings a
notice, with cause ARRIVAL and the cut retired (R151, R158). -/
def State.commitFall (s : State) (t : Nat) (arrival : Option (CutId × Nat)) : State :=
  s.changeTrack t (if arrival.isSome then .arrival else .committedZero) arrival.isSome arrival none (fun r =>
    { r with committed := r.committed - 1,
             state := if r.state = .closing ∧ r.committed - 1 = 0 then .closed else r.state })

/-- A cut's destination moves from one track to another; a cut that keeps its track makes no report (R151). -/
def State.moveCommitment (s : State) (old new : Nat) : State :=
  if old = new then s else (s.commitFall old none).commitRise new

end Sys2Proof.Machine
end

