-- ==== Sys2Proof/Machine/RouteOps.lean ====
section
/-! DEFINITION. RouteOps.lean: the Route Planner: predictions, freeing and retirement, the diversion rule, head passes
(chapter 6). -/

namespace Sys2Proof.Machine

/-! ### Predictions (R109) -/

/-- The speed a prediction is made from: a valid speed report's, else the head report's (R109). -/
def predictionSpeed (l : Layout) (r : CutRec) (h : HeadReport) : Option Nat :=
  match r.speed with
  | some sp => if h.sensor = l.entrySensor sp.point then some sp.speed else h.speed
  | none => h.speed

/-- The steps of a path from the one whose entry sensor is given. -/
def stepsFrom (l : Layout) (x : Sensor) (path : List Step) : List Step :=
  path.dropWhile (fun st => l.entrySensor st.point != x)

/-- The predicted toe time of a cut at a point of its path (R109). -/
def predictedToe (l : Layout) (r : CutRec) (n : Nat) : Option YardTime :=
  if r.stalled then none
  else match r.head with
  | none => none
  | some h =>
    match predictionSpeed l r h with
    | none => none
    | some v =>
      let steps := stepsFrom l h.sensor r.path
      if steps.any (fun st => st.point == n) then
        some (h.time + BitVec.ofNat 32 (l.toeDistance n steps * 10 * l.earlyFactor / v))
      else none

/-! ### Arrival (R120) -/

/-- Whether the head reached the destination, as CUT ARRIVED says (R120): the frontier is absent (R108), and the cut still holds
axles. A cut that retires with held 0 and arrived 0 shows that its head did not reach, also one whose head entered the track before
(log entry 48). -/
def CutRec.headReached (r : CutRec) : Bool := r.frontier.isNone && r.held != 0

namespace State

/-- Recompute the predictions of all of a cut's demands (R109). -/
def predict (s : State) (c : CutId) : State :=
  match s.cut? c with
  | none => s
  | some r =>
    { s with demands := s.demands.map (fun q =>
        { q with entries := q.entries.map (fun d =>
            if d.cut = c then { d with toe := predictedToe s.layout r q.point } else d) }) }

/-! ### Freeing and retirement (R100, R120) -/

/-- The Zone Tracker removes a cut from every exit register (R39). -/
def forgetExits (s : State) (c : CutId) : State :=
  { s with sections := s.sections.map (fun r => { r with exits := r.exits.filter (fun e => e.cut != c) }) }

/-- A record is freed (R100). `arrival` says that the cause is its retirement, with the cut and its held axles. -/
def freeRecord (s : State) (r : CutRec) (arrival : Option (CutId × Nat)) : State :=
  let s := ((s.removeDemands r.id (fun _ => true)).commitFall r.dest arrival).forgetExits r.id
  ({ s with cuts := s.cuts.filter (fun x => x.id != r.id) }).freed

/-- The retirement check of a cut: a ROLLING record whose arrived axles equal its held axles retires (R120). -/
def retireCheck (s : State) (c : CutId) : State :=
  match s.cut? c with
  | none => s
  | some r =>
    if r.state = .rolling ∧ r.arrived = r.held then
      (s.give (.cutArrived c r.dest r.held r.arrived r.expected r.merged r.headReached)).freeRecord r
        (some (c, r.held))
    else s

/-! ### The diversion rule (R112 to R114) -/

/-- The lie track of an outlet: follow the points as they lie (R101). The fuel is the number of points. -/
def followLie (s : State) : Nat → Step → Option Nat
  | 0, _ => none
  | fuel + 1, st =>
    match s.layout.targetOf st with
    | some (.track t) => some t
    | some (.point q) => s.followLie fuel ⟨q, s.lieOf q⟩
    | none => none

def lieTrack (s : State) (st : Step) : Option Nat := s.followLie (s.layout.points.length + 1) st

/-- Case 1 of R112: the alternate of the planned track, below the outlet and OPEN. -/
def alternateBelow (s : State) (r : CutRec) (st : Step) : Option Nat :=
  match (s.track? r.planned).bind TrackRec.alternate with
  | some a => if s.layout.isBelow st a && s.trackOpen a then some a else none
  | none => none

/-- Cases 1 to 3 of R112. -/
def openDiversion (s : State) (r : CutRec) (st : Step) : Option Nat :=
  match s.alternateBelow r st with
  | some a => some a
  | none =>
    match s.lieTrack st with
    | some t => if s.trackOpen t then some t else (s.layout.tracksBelow st).find? s.trackOpen
    | none => (s.layout.tracksBelow st).find? s.trackOpen

/-- The diversion rule (R112); a STAGED record is diverted by cases 1 to 3 alone (R111). -/
def diversionTrack (s : State) (r : CutRec) (st : Step) : Option Nat :=
  match s.openDiversion r st with
  | some t => some t
  | none => if r.state = .staged then none else s.lieTrack st

/-- A speed report whose point is no longer on the path is discarded (R110, R113, R117). -/
def keepSpeed (path : List Step) : Option SpeedRec → Option SpeedRec
  | some sp => if path.any (fun st => st.point == sp.point) then some sp else none
  | none => none

/-- A path change frees pool entries, `stripped` being the state with the old demands gone: the Roll List hears of it, however
many entries the change then inserts (R72, R75; log entry 7). -/
def reportPool (s stripped before : State) : State := if stripped.poolUsed < before.poolUsed then s.freed else s

/-- A diversion of a cut at a point by an outlet to the track chosen (R113, R114). -/
def applyDiversion (s : State) (r : CutRec) (st : Step) (cause : DivertCause) (dest : Nat) : State :=
  let kept := r.path.takeWhile (fun x => x.point != st.point)
  let old := r.path.drop (kept.length + 1)
  let wanted := s.layout.pathBelow st.point dest
  let s1 := s.removeDemands r.id (fun n => old.any (fun x => x.point == n))
  let s2 := s1.modQueue st.point (fun q => q.map (fun d => if d.cut = r.id then { d with pos := st.pos } else d))
  let below := wanted.take s2.poolFree
  let pathEnd : PathEnd := if s2.poolFree < wanted.length then .opened else .track
  let path := kept ++ st :: below
  let s3 := (s2.insertDemands r.id below).modCut r.id (fun r =>
    { r with path := path, pathEnd := pathEnd, dest := dest, status := .diverted, speed := keepSpeed path r.speed })
  let intrusion : Bool := match s.track? dest with
    | some t => t.state == .closed && dest != r.dest
    | none => false
  let s4 := s3.moveCommitment r.dest dest
  let s5 := if intrusion then s4.raise .routePlanner .intrusion else s4
  let s6 := if pathEnd = .opened then s5.raise .routePlanner .capacity else s5
  ((s6.predict r.id).give
    (.cutDiverted r.id cause (some st) r.dest dest .diverted path.length pathEnd)).reportPool s1 s

/-- Divert a cut at a point by an outlet where the rule gives a track (R111 to R113). -/
def divert (s : State) (c : CutId) (st : Step) (cause : DivertCause) : State :=
  match s.cut? c with
  | none => s
  | some r =>
    match s.diversionTrack r st with
    | some t => s.applyDiversion r st cause t
    | none => s

/-! ### Head passes (R104 to R108) -/

/-- The head enters the section of the point at its frontier (R105). -/
def headEntry (s : State) (r : CutRec) (st : Step) (i : Nat) (speed : Option Nat) (time : YardTime) : State :=
  let s := ((s.removeDemands r.id (fun n => n == st.point)).modCut r.id (fun r =>
    { r with frontier := some (i + 1) })).freed
  let answer := s.entryReport r.id st.point (some st.pos) speed time
  match answer.2 with
  | some o => answer.1.divert r.id ⟨st.point, o⟩ .late
  | none => answer.1

/-- The head's arrival in its destination (R108). -/
def headArrival (s : State) (r : CutRec) : State :=
  let s1 := s.removeDemands r.id (fun _ => true)
  (s1.modCut r.id (fun r => { r with frontier := none, speed := none })).reportPool s1 s

/-- Below the end of an OPEN path the head enters a track other than its destination (R107). -/
def strayArrival (s : State) (r : CutRec) (st : Step) (t : Nat) : State :=
  let closed : Bool := match s.track? t with
    | some x => x.state == .closed
    | none => false
  let s := (s.modCut r.id (fun r => { r with dest := t, status := .diverted })).moveCommitment r.dest t
  let s := if closed then s.raise .routePlanner .intrusion else s
  s.give (.cutDiverted r.id .diverged (some st) r.dest t .diverted r.path.length r.pathEnd)

/-- Step 4 of R104: the zone the head has entered; `left` is the outlet it took, absent at K. -/
def headZone (s : State) (c : CutId) (left : Option Step) (zone : Target) (speed : Option Nat) (time : YardTime) :
    State :=
  match s.cut? c with
  | none => s
  | some r =>
    match zone with
    | .point q =>
      match r.frontier.bind (fun i => (r.path[i]?).map (fun st => (st, i))) with
      | some (st, i) => if st.point = q then s.headEntry r st i speed time else s
      | none =>
        if r.path.any (fun st => st.point == q) then s
        else (s.entryReport c q none speed time).1
    | .track t =>
      let s := match left with
        | some st => if r.dest = t then s else s.strayArrival r st t
        | none => s
      s.headArrival r

/-- Step 3 of R104: the outlet taken is compared with the path; where they differ the cut has diverged (R106). A speed
report for the point just left is discarded (R110). -/
def headOutlet (s : State) (c : CutId) (left : Option Step) : State :=
  match left with
  | none => s
  | some st =>
    let s := s.modCut c (fun r => { r with speed := match r.speed with
      | some sp => if sp.point = st.point then none else some sp
      | none => none })
    match (s.cut? c).bind (fun r => r.path.find? (fun x => x.point == st.point)) with
    | some x => if x.pos = st.pos then s else (s.divergenceReport c st.point st.pos).divert c st .diverged
    | none => s

/-- Steps 3 to 5 of R104. -/
def headPassWork (s : State) (c : CutId) (left : Option Step) (zone : Target) (speed : Option Nat) (time : YardTime) :
    State :=
  ((s.headOutlet c left).headZone c left zone speed time).predict c

/-- The Route Planner takes a head pass (R104). The CUT PASSAGE notice shows the frontier after the pass and leaves before
any notice the pass brings (R122). -/
def headPass (s : State) (c : CutId) (p : Pass) (left : Option Step) (zone : Target) : State :=
  let s := s.modCut c (fun r => { r with head := some ⟨p.sensor, p.speed, p.time⟩ })
  let after := (s.headPassWork c left zone p.speed p.time).cut? c
  (s.give (.cutPassage c p.sensor p.speed left zone (after.bind CutRec.frontier) p.time)).headPassWork c left zone
    p.speed p.time

end State

end Sys2Proof.Machine
end

