-- ==== Sys2Proof/Machine/RollOps.lean ====
section
/-! DEFINITION. RollOps.lean: the Roll List's staging, re-planning and un-staging (sections 4.6 to 4.9, R68). -/

namespace Sys2Proof.Machine

/-- Outcome of a staging attempt (R73, R75). -/
inductive StagingOutcome where
  | listEmpty
  | unroutable
  | noRoom
  | staged (e : PlannedEntry) (dest : Nat) (status : RouteStatus)
  deriving DecidableEq, Repr

/-- A CUT STAGED notice of a record (R81). -/
def stagedNotice (r : CutRec) (e : StagedEvent) : NoticeBody :=
  .cutStaged r.id e r.expected r.planned r.cls r.tag r.port
    (match e with
     | .staged => some (r.dest, r.status, r.path.length)
     | .rePlanned => some (r.dest, r.status, r.path.length)
     | _ => none)

/-- The record a staging makes (R74). -/
def stagedRecord (e : PlannedEntry) (dest : Nat) (status : RouteStatus) (path : List Step) : CutRec :=
  { id := ⟨e.roll, 0⟩, state := .staged, stalled := false, cls := e.cls, accepted := false, port := e.port,
    planned := e.track, tag := e.tag, dest := dest, status := status, expected := e.axles, counted := 0, held := 0,
    arrived := 0, merged := [], path := path, pathEnd := .track, frontier := some 0, head := none, speed := none,
    released := none }

/-- The entry an un-staged record leaves in the list (R79). -/
def returnedEntry (r : CutRec) : PlannedEntry := ⟨r.id.roll, r.expected, r.planned, r.cls, r.tag, r.port⟩

namespace State

/-- The destination staging chooses for a planned track: the track, or its alternate, whichever is OPEN (R73 step 2). -/
def chooseDest (s : State) (planned : Nat) : Option (Nat × RouteStatus) :=
  if s.trackOpen planned then some (planned, .asPlanned)
  else match (s.track? planned).bind TrackRec.alternate with
    | some a => if s.trackOpen a then some (a, .alternate) else none
    | none => none

/-- Steps 1 to 3 of R73. -/
def stagingOutcome (s : State) : StagingOutcome :=
  match s.planned with
  | [] => .listEmpty
  | e :: _ =>
    match s.chooseDest e.track with
    | none => .unroutable
    | some (t, st) =>
      if Config.cutTableSize ≤ s.cuts.length ∨ s.poolFree < (s.layout.pathTo t).length then .noRoom
      else .staged e t st

/-- The three staging reasons an outcome leaves (R75). -/
def stagingReasons (s : State) : StagingOutcome → State
  | .listEmpty => (s.raise .rollList .listEmpty).clear .rollList .nextUnroutable
  | .unroutable => (s.clear .rollList .listEmpty).raise .rollList .nextUnroutable
  | .noRoom => ((s.clear .rollList .listEmpty).clear .rollList .nextUnroutable).raise .rollList .capacity
  | .staged _ _ _ => ((s.clear .rollList .listEmpty).clear .rollList .nextUnroutable).clear .rollList .capacity

/-- A RESTRICTED, unaccepted record that is STAGED raises NEXT RESTRICTED (R76, R96). -/
def raiseRestricted (s : State) (r : CutRec) : State :=
  if r.cls = .restricted ∧ ¬ r.accepted then s.raise .rollList .nextRestricted else s

/-- Staging of the head entry (R74). -/
def stageEntry (s : State) (e : PlannedEntry) (dest : Nat) (status : RouteStatus) : State :=
  let r := stagedRecord e dest status (s.layout.pathTo dest)
  let s := { s with planned := s.planned.tail, cuts := s.cuts ++ [r] }
  let s := (s.insertDemands r.id r.path).commitRise dest
  (s.give (stagedNotice r .staged)).raiseRestricted r

/-- A staging attempt, made in ACTIVE with no STAGED record (R72 to R75). -/
def stagingAttempt (s : State) : State :=
  if s.mode = .active ∧ s.staged?.isNone then
    let o := s.stagingOutcome
    let s := s.stagingReasons o
    match o with
    | .staged e t st => s.stageEntry e t st
    | _ => s
  else s

/-- The STAGED record is taken out of the Cut Table, and NEXT RESTRICTED clears (R70, R76, R79). The Roll List frees the record
itself, in an event that makes its own staging attempt where R72 asks for one: the freeing brings no second one. -/
def removeStaged (s : State) (r : CutRec) : State :=
  { (s.freeRecord r none).clear .rollList .nextRestricted with freedDue := s.freedDue }

/-- Un-staging: the record's cut returns to the head of the list (R79). -/
def unstage (s : State) (r : CutRec) : State :=
  let s := s.removeStaged r
  ({ s with planned := returnedEntry r :: s.planned }).give (stagedNotice r .returned)

/-- A STAGED record takes a destination chosen anew (R68, R78), or is un-staged when there is none or the pool is short. -/
def replan (s : State) (r : CutRec) : State :=
  match s.chooseDest r.planned with
  | none => s.unstage r
  | some (t, st) =>
    if t = r.dest then
      let r' := { r with status := st }
      (s.modCut r.id (fun _ => r')).give (stagedNotice r' .rePlanned)
    else
      let path := s.layout.pathTo t
      if s.poolFree + s.demandCount r.id < path.length then s.unstage r
      else
        let r' := { r with dest := t, status := st, path := path, pathEnd := .track, speed := keepSpeed path r.speed }
        let s1 := s.removeDemands r.id (fun _ => true)
        let s2 := ((s1.modCut r.id (fun _ => r')).insertDemands r.id path).moveCommitment r.dest t
        (s2.give (stagedNotice r' .rePlanned)).reportPool s1 s

/-- The re-check of the STAGED record when its destination is no longer OPEN (R78). -/
def recheck (s : State) : State :=
  match s.staged? with
  | some r => if s.trackOpen r.dest then s else s.replan r
  | none => s

/-- The mode change part of STOP HUMPING and of R20: a STAGED record is un-staged. -/
def unstageIfStaged (s : State) : State :=
  match s.staged? with
  | some r => s.unstage r
  | none => s

end State

end Sys2Proof.Machine
end

