-- ==== Sys2Proof/Machine/Event.lean ====
section
/-! DEFINITION. Event.lean: what closes every event: head-entry reports, the end of DRAINING, the Hold Unit's updates and
the lines; and a request's way through its Port Controller (R20, R103, R172, R184 to R187, R189, R190). -/

namespace Sys2Proof.Machine

/-! ### The line (R187, R190) -/

/-- Start the next frame on a free line: the oldest answer, or else the oldest notice. A notice that leaves its queue while
the overrun marker is set brings an OVERRUN notice at the tail (R187, R190). The frame leaves its queue here, when its sending
begins: the model's choice (log entry 60). -/
def startLine (now : YardTime) (q : PortState) : PortState :=
  match q.line with
  | some _ => q
  | none =>
    match q.answers with
    | a :: rest => { q with line := some (.answer a.answer), answers := rest }
    | [] =>
      match q.notices with
      | n :: rest =>
        if q.overrun then
          { q with line := some (.notice n), notices := rest ++ [⟨now, .overrun q.discards⟩], overrun := false,
                   discards := 0 }
        else { q with line := some (.notice n), notices := rest }
      | [] => q

namespace State

/-- Every free line with something queued starts its next frame. -/
def startLines (s : State) : State := { s with ports := s.ports.map (startLine s.now) }

/-! ### The end of an event -/

/-- Each point whose head demand at the end of the event differs from that at its start is reported to Point Control, which
evaluates it as an event of its own (R103, R125). R103 orders these reports in no way: in ascending point number, behind the
evaluations already due, is the model's choice (log entry 61). -/
def reportHeads (s before : State) : State :=
  { s with evalDue := s.evalDue ++
      ((s.demands.filter (fun q => s.headOf q.point != before.headOf q.point)).map (fun q => ⟨q.point, false⟩)) }

/-- In DRAINING the mode becomes STANDBY when no FORMING or ROLLING record remains (R20, R22). -/
def drained (s : State) : State :=
  if s.mode = .draining ∧ ¬ s.hasMoving then
    ({ s with mode := .standby }).give (.mode .standby (some .draining) .drained)
  else s

/-- What closes every event that began in `before`; `src` is the request that made it, if one did. -/
def finish (s before : State) (src : Option HoldSource) : State :=
  (((s.reportHeads before).drained).settleHolds src).startLines

end State

/-- The outcome of a command of the model. -/
abbrev Result := Host.Outcome State Fault Refusal

/-- An event that is no request: with the supply off nothing acts (R13). -/
def event (run : State → State) (s : State) : Result :=
  .next (if s.powered then (run s).finish s none else s)

/-! ### Requests (R184 to R186) -/

/-- The roles that may make a request, by its code (R183). -/
def roleMay (code : Nat) (p : Port) : Bool :=
  if code ≤ 6 then 1 ≤ code
  else if code = 7 then p != .speed
  else if code ≤ 11 then true
  else if code = 16 ∨ code = 17 then p == .planning
  else if code = 18 then p == .planning || p == .crest
  else if 24 ≤ code ∧ code ≤ 30 then p == .planning || p == .crest
  else if 32 ≤ code ∧ code ≤ 36 then p == .crest
  else if 40 ≤ code ∧ code ≤ 50 then p == .crest
  else if code = 56 then p == .speed
  else if 64 ≤ code ∧ code ≤ 68 then p != .speed
  else if 72 ≤ code ∧ code ≤ 76 then p != .speed
  else false

/-- The requests taken in SETUP, by code (R17). -/
def takenInSetup (code : Nat) : Bool := code ≤ 11 || (24 ≤ code && code ≤ 30)

def PortState.hasAnswer (q : PortState) (k : AnswerKind) : Bool := q.answers.any (fun a => a.kind == k)

/-- Queue a BUSY answer to a REQUEST frame; a third one is not placed (R184, R187). -/
def PortState.busy (q : PortState) (tag code : Nat) : PortState :=
  if 2 ≤ (q.answers.filter (fun a => a.kind == .busy)).length then q
  else { q with answers := q.answers ++ [⟨.busy, ⟨tag, code, Reply.plain .busy⟩⟩] }

/-- Queue a BUSY answer to an URGENT frame in the urgent answer's place, if that is free (R186, R187). -/
def PortState.busyUrgent (q : PortState) (tag code : Nat) : PortState :=
  if q.hasAnswer .urgent then q
  else { q with answers := q.answers ++ [⟨.urgent, ⟨tag, code, Reply.plain .busy⟩⟩] }

/-- Place a REQUEST in the working or the waiting slot, or answer it BUSY (R184). -/
def PortState.place (q : PortState) (cmd : Instr) (tag code : Nat) : PortState :=
  match q.working with
  | none => { q with working := some ⟨cmd, false, false⟩ }
  | some _ =>
    match q.waiting with
    | none => { q with waiting := some cmd }
    | some _ => q.busy tag code

/-- Place an URGENT frame in the urgent slot, or answer it BUSY (R186). -/
def PortState.placeUrgent (q : PortState) (cmd : Instr) (tag code : Nat) : PortState :=
  match q.urgent with
  | none => { q with urgent := some cmd }
  | some _ => q.busyUrgent tag code

/-- The frame in the urgent slot, if it may be taken (R186). -/
def PortState.readyUrgent (q : PortState) : Option Instr :=
  if q.hasAnswer .urgent then none else q.urgent

/-- The request in the working slot, if it is held and may be handed on (R184): an urgent frame that may be taken is taken
ahead of it (R186). -/
def PortState.ready (q : PortState) : Option Instr :=
  match q.working with
  | some w => if !w.taken && !q.hasAnswer .ordinary && q.readyUrgent.isNone then some w.cmd else none
  | none => none

/-- A request command at its port (log entry 4): a request held in the working slot is handed on when it may be; a request
that stands in no slot arrives now and is placed first. Answers the port, and whether the request is taken. -/
def PortState.arrive (q : PortState) (cmd : Instr) (tag code : Nat) : PortState × Bool :=
  let q := match q.working with
    | some w => if w.cmd = cmd ∧ ¬ w.taken then q else q.place cmd tag code
    | none => q.place cmd tag code
  if q.ready = some cmd then
    ({ q with working := q.working.map (fun w => { w with taken := true }) }, true)
  else (q, false)

/-- The same for a frame of the urgent slot; taking it frees the slot (R186). -/
def PortState.arriveUrgent (q : PortState) (cmd : Instr) (tag code : Nat) : PortState × Bool :=
  let q := if q.urgent = some cmd then q else q.placeUrgent cmd tag code
  if q.readyUrgent = some cmd then ({ q with urgent := none }, true) else (q, false)

/-- The working request's answer is placed, or discarded after a reset; its slot frees and the waiting request moves up
(R184, R192). -/
def PortState.answer (q : PortState) (tag code : Nat) (r : Reply) : PortState :=
  let drop : Bool := match q.working with
    | some w => w.discard
    | none => false
  { q with
    answers := if drop then q.answers else q.answers ++ [⟨.ordinary, ⟨tag, code, r⟩⟩],
    working := q.waiting.map (fun c => ⟨c, false, false⟩),
    waiting := none }

/-- The urgent answer is placed (R186). -/
def PortState.answerUrgent (q : PortState) (tag code : Nat) (r : Reply) : PortState :=
  { q with answers := q.answers ++ [⟨.urgent, ⟨tag, code, r⟩⟩] }

/-- The checks of R185 and R17 before a request reaches its owning block: role, fields, mode. WRONG MODE in SETUP comes before
the BUSY of a write (R14; log entry 34). -/
def judge {α : Type} (p : Port) (code : Nat) (f : Fields α) (run : α → State → State × Option Reply) (s : State) :
    State × Option Reply :=
  if !roleMay code p then (s, some (Reply.plain .denied))
  else match f with
  | .misfit k => (s, some ⟨.badValue, .offset k⟩)
  | .fits a =>
    if s.mode = .setup ∧ ¬ takenInSetup code then (s, some (Reply.plain .wrongMode)) else run a s

/-- The cases of R186 for HOLD NOW and FREEZE POINTS in an URGENT frame; BAD VALUE carries no field. -/
def judgeUrgent {α : Type} (p : Port) (code : Nat) (f : Fields α) (run : α → State → State × Option Reply) (s : State) :
    State × Option Reply :=
  if !roleMay code p then (s, some (Reply.plain .denied))
  else match f with
  | .misfit _ => (s, some (Reply.plain .badValue))
  | .fits a =>
    if s.mode = .setup ∧ ¬ takenInSetup code then (s, some (Reply.plain .wrongMode)) else run a s

/-- A request at a port. `work` is what its taking does: the state after it and the answer, which is absent when it is given
later (R13). -/
def request (p : Port) (tag code : Nat) (cmd : Instr) (work : State → State × Option Reply) (s : State) : Result :=
  .next (
    if s.powered then
      let a := (s.ports.get p).arrive cmd tag code
      let s1 := { s with ports := s.ports.set p a.1 }
      if a.2 then
        let o := work s1
        let s2 := match o.2 with
          | some r => o.1.modPort p (fun q => q.answer tag code r)
          | none => o.1
        s2.finish s (some (.request code p))
      else s1.finish s none
    else s)

/-- A frame of the urgent slot (R186): its answer is given at once. -/
def urgentRequest (p : Port) (tag code : Nat) (cmd : Instr) (work : State → State × Option Reply) (s : State) :
    Result :=
  .next (
    if s.powered then
      let a := (s.ports.get p).arriveUrgent cmd tag code
      let s1 := { s with ports := s.ports.set p a.1 }
      if a.2 then
        let o := work s1
        let s2 := match o.2 with
          | some r => o.1.modPort p (fun q => q.answerUrgent tag code r)
          | none => o.1
        s2.finish s (some (.request code p))
      else s1.finish s none
    else s)

/-- A block's work that is always answered at once. -/
def answered {α : Type} (run : α → State → State × Reply) : α → State → State × Option Reply :=
  fun a s => let o := run a s; (o.1, some o.2)

/-- A read: it changes nothing. -/
def reading {α : Type} (f : α → State → Reply) : α → State → State × Option Reply :=
  fun a s => (s, some (f a s))

end Sys2Proof.Machine
end

