-- ==== Sys2Proof/Machine/Roll.lean ====
section
/-! DEFINITION. Roll.lean: the roll list's requests and the events the Roll List takes (chapter 4). -/

namespace Sys2Proof.Machine

/-- A grant table holds a grant for a track carrying the right asked for (R161). -/
def Custody.holds (c : Custody) (t : Nat) (right : Rights → Bool) : Bool :=
  c.slots.any (fun g => match g with
    | some g => g.track == t && right g.rights
    | none => false)

/-- The class a code names (R63). -/
def classOfCode : Nat → Option CutClass
  | 0 => some .normal
  | 1 => some .restricted
  | _ => none

namespace State

def mayAssign (s : State) (p : Port) (t : Nat) : Bool := (s.custody.get p).holds t Rights.assign
def mayClose (s : State) (p : Port) (t : Nat) : Bool := (s.custody.get p).holds t Rights.close

/-- A roll number of a FORMING or ROLLING record of any fragment, or in the merged rolls of one (R67, R70). -/
def rollMoving (s : State) (n : Nat) : Bool :=
  s.cuts.any (fun r => r.state != .staged && (r.id.roll == n || r.merged.contains n))

/-- The cuts that count toward the limit of ENTER CUT (R63, R65). -/
def rollCount (s : State) : Nat :=
  s.planned.length + (if s.staged?.isSome then 1 else 0) +
    (match s.crest.current with
     | some (.cut _) => 1
     | _ => 0)

/-- The field of an ENTER CUT that is out of range; of several the first in the order roll, axles, class, tag (R65 case 3; log
entry 46). -/
def badEnterField (a : EnterArgs) : Option EnterField :=
  if a.roll < 1 ∨ 65535 < a.roll then some .roll
  else if a.axles < 2 ∨ 96 < a.axles then some .axles
  else if (classOfCode a.cls).isNone then some .cls
  else if 12 < (a.tag.getD []).length then some .tag
  else none

/-- ENTER CUT (R65, R66). The answer counts the PLANNED entries before the staging attempt that the entry may bring (log entry
39). -/
def enterCut (p : Port) (a : EnterArgs) (s : State) : State × Reply :=
  match s.load with
  | .writing _ _ _ => (s, Reply.plain .busy)
  | _ =>
    match badEnterField a, classOfCode a.cls with
    | some f, _ => (s, ⟨.badValue, .field f none⟩)
    | none, none => (s, ⟨.badValue, .field .cls none⟩)
    | none, some cls =>
      if (s.track? a.track).isNone then (s, Reply.plain .noSuch)
      else if !s.mayAssign p a.track then (s, Reply.plain .noRight)
      else if a.roll ≤ s.floor then (s, ⟨.badValue, .field .roll (some s.floor)⟩)
      else if Config.rollListSize ≤ s.rollCount then (s, Reply.plain .full)
      else
        let first := s.planned.isEmpty
        let s := { s with
          planned := s.planned ++ [⟨a.roll, a.axles, a.track, cls, a.tag, p⟩], floor := a.roll }
        let n := s.planned.length
        (if first then s.stagingAttempt else s, Reply.doneWith (.number n))

/-- AMEND CUT of a PLANNED entry; that of the head counts as a change of the list head (R67). -/
def amendPlanned (s : State) (a : AmendArgs) : State × Reply :=
  if s.planned.any (fun e => e.roll == a.roll) then
    let head : Bool := s.planned.head?.map PlannedEntry.roll = some a.roll
    let s : State := { s with
      planned := s.planned.map (fun e => if e.roll = a.roll then { e with track := a.track } else e) }
    (if head then s.stagingAttempt else s, Reply.doneWith (.planState false))
  else (s, ⟨.noSuch, .roll a.roll⟩)

/-- AMEND CUT (R67, R68). -/
def amendCut (p : Port) (a : AmendArgs) (s : State) : State × Reply :=
  if a.roll < 1 ∨ 65535 < a.roll then (s, Reply.plain .badValue)
  else if (s.track? a.track).isNone then (s, ⟨.noSuch, .track a.track⟩)
  else if !s.mayAssign p a.track then (s, Reply.plain .noRight)
  else if s.rollMoving a.roll then (s, Reply.plain .tooLate)
  else match s.staged? with
  | some r =>
    if r.id.roll = a.roll then
      let s := (s.modCut r.id (fun r => { r with planned := a.track })).replan { r with planned := a.track }
      let staged := s.staged?.isSome
      (s.stagingAttempt, Reply.doneWith (.planState staged))
    else s.amendPlanned a
  | none => s.amendPlanned a

/-- WITHDRAW CUT (R70). -/
def withdrawCut (n : Nat) (s : State) : State × Reply :=
  if n < 1 ∨ 65535 < n then (s, Reply.plain .badValue)
  else if s.planned.any (fun e => e.roll == n) then
    let head : Bool := s.planned.head?.map PlannedEntry.roll = some n
    let s := { s with planned := s.planned.filter (fun e => e.roll != n) }
    (if head then s.stagingAttempt else s, Reply.doneWith (.planState false))
  else match s.staged?.filter (fun r => r.id.roll == n) with
  | some r =>
    let s := (s.removeStaged r).give (stagedNotice r .withdrawn)
    (s.stagingAttempt, Reply.doneWith (.planState true))
  | none => (s, Reply.plain (if s.rollMoving n then .tooLate else .noSuch))

def plannedItem (e : PlannedEntry) : ListItem := ⟨e.roll, e.axles, e.track, e.cls, e.tag, e.port, none⟩
def stagedItem (r : CutRec) : ListItem :=
  ⟨r.id.roll, r.expected, r.planned, r.cls, r.tag, r.port,
   some (r.dest, r.status, if r.cls = .restricted then some r.accepted else none)⟩

/-- READ LIST (R71). -/
def readList (n : Nat) (s : State) : Reply :=
  let items := s.staged?.toList.map stagedItem ++ s.planned.map plannedItem
  Reply.doneWith (.list s.floor s.planned.length s.staged?.isSome
    ((items.filter (fun i => decide (n ≤ i.roll))).take 16))

/-- ACCEPT NEXT (R77). -/
def acceptNext (n : Nat) (s : State) : State × Reply :=
  match s.staged? with
  | none => (s, Reply.plain .noSuch)
  | some r =>
    if r.id.roll ≠ n then (s, ⟨.conflict, .roll r.id.roll⟩)
    else if r.cls = .normal then (s, Reply.plain .conflict)
    else if r.accepted then (s, Reply.done)
    else ((s.modCut r.id (fun r => { r with accepted := true })).clear .rollList .nextRestricted, Reply.done)

/-- The Roll List takes the STAGED record leaving STAGED, or a freeing (R72, R75, R76). -/
def takeStagedLeft (s : State) : State :=
  if s.stagedLeftDue || s.freedDue then
    let freeing := s.freedDue
    let s := { s with stagedLeftDue := false, freedDue := false }
    match s.staged? with
    | some r =>
      let s := if r.cls = .restricted ∧ ¬ r.accepted then s else s.clear .rollList .nextRestricted
      if freeing then s.clear .rollList .capacity else s
    | none => (s.clear .rollList .nextRestricted).stagingAttempt
  else s

/-- The Roll List takes a change of a track's state (R149): the re-check of R78, a staging attempt of R72. -/
def takeTrackReport (t : Nat) (s : State) : State :=
  if s.trackReportDue.contains t then
    let s := { s with trackReportDue := dropFirst t s.trackReportDue }
    let s := match s.staged? with
      | some r => if r.dest = t then s.recheck else s
      | none => s
    s.stagingAttempt
  else s

end State

def execReadList (p : Port) (tag : Nat) (f : Fields Nat) (s : State) : Result :=
  request p tag 1 (.readList p tag f) (judge p 1 f (reading State.readList)) s

def execEnterCut (p : Port) (tag : Nat) (f : Fields EnterArgs) (s : State) : Result :=
  request p tag 16 (.enterCut p tag f) (judge p 16 f (answered (State.enterCut p))) s

def execAmendCut (p : Port) (tag : Nat) (f : Fields AmendArgs) (s : State) : Result :=
  request p tag 17 (.amendCut p tag f) (judge p 17 f (answered (State.amendCut p))) s

def execWithdrawCut (p : Port) (tag : Nat) (f : Fields Nat) (s : State) : Result :=
  request p tag 18 (.withdrawCut p tag f) (judge p 18 f (answered State.withdrawCut)) s

def execAcceptNext (p : Port) (tag : Nat) (f : Fields Nat) (s : State) : Result :=
  request p tag 36 (.acceptNext p tag f) (judge p 36 f (answered State.acceptNext)) s

/-- STAGED_RECORD_LEFT (R72): taken when it is due (log entry 3). -/
def execStagedRecordLeft (s : State) : Result := event State.takeStagedLeft s

/-- TRACK_STATE_REPORT (R149): taken when it is due (log entry 3). -/
def execTrackStateReport (t : Nat) (s : State) : Result := event (State.takeTrackReport t) s

end Sys2Proof.Machine
end

