-- ==== Sys2Proof/Machine/Tracks.lean ====
section
/-! DEFINITION. Tracks.lean: the requests on a track (sections 8.4, 8.5). -/

namespace Sys2Proof.Machine

/-- Where the grant carrying CLOSE for a track stands at one port (R159, R168); that places in a queue are
counted from 1, the oldest, is the model's choice (log entry 59). -/
def Custody.findClose (p : Port) (c : Custody) (t : Nat) : Option GrantPlace :=
  match c.slots.findIdx? (fun g => match g with
    | some g => g.track == t && g.rights.close
    | none => false) with
  | some i => some (.table p (i + 1))
  | none => (c.inbound.findIdx? (fun e => e.grant.track == t && e.grant.rights.close)).map (fun i => .queue p (i + 1))

namespace State

/-- Where the grant carrying CLOSE for a track stands (R159, R160). -/
def closePlace (s : State) (t : Nat) : Option GrantPlace :=
  (allPorts.filterMap (fun p => (s.custody.get p).findClose p t)).head?

/-- READ TRACK (R159). -/
def readTrack (t : Nat) (s : State) : Reply :=
  match s.track? t with
  | none => Reply.plain .noSuch
  | some r => Reply.doneWith (.trackRec r (s.closePlace t) (allPorts.filter (fun p => s.mayAssign p t)))

/-- The cases of R152 that every track request shares after those of the port. -/
def onTrack (p : Port) (t : Nat) (run : TrackRec → State → State × Reply) (s : State) : State × Reply :=
  match s.track? t with
  | none => (s, Reply.plain .noSuch)
  | some r => if s.mayClose p t then run r s else (s, Reply.plain .noRight)

/-- CLOSE TRACK (R153). -/
def closeTrack (r : TrackRec) (s : State) : State × Reply :=
  match r.state with
  | .closing => (s, Reply.doneWith (.closing .closing r.committed))
  | .closed => (s, Reply.doneWith (.trackState .closed))
  | _ =>
    if r.committed = 0 then
      (s.changeTrack r.num .close false none none (fun r => { r with state := .closed }),
       Reply.doneWith (.trackState .closed))
    else
      (s.changeTrack r.num .close false none none (fun r => { r with state := .closing }),
       Reply.doneWith (.closing .closing r.committed))

/-- OPEN TRACK (R154). -/
def openTrack (r : TrackRec) (s : State) : State × Reply :=
  let open' : Bool := r.state = .closing ∨ r.state = .closed
  let now : TrackState := if open' then (if r.fill < r.capacity then .opened else .full) else r.state
  (s.changeTrack r.num .open false none none (fun r => { r with state := now }), Reply.doneWith (.trackState now))

/-- PULL RECORD (R155). -/
def pullRecord (v : Nat) (r : TrackRec) (s : State) : State × Reply :=
  if r.state ≠ .closed then (s, ⟨.conflict, .trackState r.state⟩)
  else if r.fill < v then (s, ⟨.badValue, .number r.fill⟩)
  else
    (s.changeTrack r.num .pull true none (some r.fill) (fun r => { r with fill := v, lastArrived := none }),
     Reply.doneWith (.fills r.fill v))

/-- SET CAPACITY (R156). -/
def setCapacity (v : Nat) (r : TrackRec) (s : State) : State × Reply :=
  if v < 1 ∨ 1000 < v then (s, Reply.plain .badValue)
  else
    (s.changeTrack r.num .capacity true none none (fun r => judgeFill { r with capacity := v }),
     Reply.doneWith (.trackState (judgeFill { r with capacity := v }).state))

/-- SET ALTERNATE (R157). The Roll List makes a staging attempt. -/
def setAlternate (a : Option Nat) (r : TrackRec) (s : State) : State × Reply :=
  if a.any (fun t => (s.track? t).isNone) then (s, Reply.plain .noSuch)
  else if a = some r.num then (s, Reply.plain .badValue)
  else
    ((s.changeTrack r.num .alternate true none none (fun r => { r with alternate := a })).stagingAttempt, Reply.done)

end State

def execReadTrack (p : Port) (tag : Nat) (f : Fields Nat) (s : State) : Result :=
  request p tag 4 (.readTrack p tag f) (judge p 4 f (reading State.readTrack)) s

def execCloseTrack (p : Port) (tag : Nat) (f : Fields Nat) (s : State) : Result :=
  request p tag 64 (.closeTrack p tag f)
    (judge p 64 f (answered (fun t => State.onTrack p t State.closeTrack))) s

def execOpenTrack (p : Port) (tag : Nat) (f : Fields Nat) (s : State) : Result :=
  request p tag 65 (.openTrack p tag f)
    (judge p 65 f (answered (fun t => State.onTrack p t State.openTrack))) s

def execPullRecord (p : Port) (tag : Nat) (f : Fields TrackValueArgs) (s : State) : Result :=
  request p tag 66 (.pullRecord p tag f)
    (judge p 66 f (answered (fun a => State.onTrack p a.track (State.pullRecord a.value)))) s

def execSetCapacity (p : Port) (tag : Nat) (f : Fields TrackValueArgs) (s : State) : Result :=
  request p tag 67 (.setCapacity p tag f)
    (judge p 67 f (answered (fun a => State.onTrack p a.track (State.setCapacity a.value)))) s

def execSetAlternate (p : Port) (tag : Nat) (f : Fields AlternateArgs) (s : State) : Result :=
  request p tag 68 (.setAlternate p tag f)
    (judge p 68 f (answered (fun a => State.onTrack p a.track (State.setAlternate a.alternate)))) s

end Sys2Proof.Machine
end

