-- ==== Sys2Proof/Machine/Custody.lean ====
section
/-! DEFINITION. Custody.lean: the custody requests (sections 8.6 to 8.9). -/

namespace Sys2Proof.Machine

def Rights.unite (a b : Rights) : Rights := ⟨a.assign || b.assign, a.close || b.close, a.relay || b.relay⟩

/-- The grant in a slot counted from 1. -/
def Custody.slot (c : Custody) (k : Nat) : Option Grant := (c.slots[k - 1]?).bind id

/-- The slot, counted from 1, that holds a grant for a track. -/
def Custody.slotOf (c : Custody) (t : Nat) : Option Nat :=
  (c.slots.findIdx? (fun g => match g with
    | some g => g.track == t
    | none => false)).map (fun i => i + 1)

/-- The lowest free slot, counted from 1. -/
def Custody.freeSlot (c : Custody) : Option Nat := (c.slots.findIdx? Option.isNone).map (fun i => i + 1)

def Custody.setSlot (c : Custody) (k : Nat) (g : Option Grant) : Custody := { c with slots := setAt c.slots (k - 1) g }

/-- Rights united into a slot's grant (R165, R168). -/
def Custody.uniteSlot (c : Custody) (k : Nat) (rights : Rights) : Custody :=
  c.setSlot k ((c.slot k).map (fun g => { g with rights := g.rights.unite rights }))

namespace State

/-- READ GRANTS (R170). -/
def readGrants (p : Port) (s : State) : Reply :=
  let c := s.custody.get p
  Reply.doneWith (.grants c.slots c.inbound)

/-- Place an entry at the tail of a port's inbound queue, with its GRANT OFFER (R162, R163, R164, R166). -/
def offer (s : State) (p target : Port) (kind : OfferKind) (g : Grant) : State :=
  let s := s.modCustody target (fun c => { c with inbound := c.inbound ++ [⟨g, p, kind⟩] })
  s.give (.grantOffer target kind g p (s.custody.get target).inbound.length)

/-- The GRANT NOTE to the creator, when the track's flag asks for it and the creator is another port (R164). -/
def note (s : State) (p target : Port) (e : NoteEvent) (flag : TrackRec → Bool) (g : Grant) : State :=
  if (s.track? g.track).any flag && g.creator != p then
    s.give (.grantNote g.creator e g.track g.rights p target none)
  else s

/-- Cases 2 to 6 of R162: the grant to hand on. -/
def handable (s : State) (p target : Port) (slot : Nat) : Status ⊕ Grant :=
  match (s.custody.get p).slot slot with
  | none => .inl .noSuch
  | some g =>
    if !g.rights.relay then .inl .noRight
    else if target = .speed then .inl .denied
    else if target = p then .inl .badValue
    else if Config.inboundSize ≤ (s.custody.get target).inbound.length then .inl .full
    else .inr g

/-- COPY GRANT (R162). The rights byte 1 is exactly {ASSIGN}. -/
def copyGrant (p : Port) (a : CopyArgs) (s : State) : State × Reply :=
  match portOfNumber a.target with
  | none => (s, Reply.plain .badValue)
  | some target =>
    if a.slot < 1 ∨ Config.grantSlots < a.slot ∨ a.rights ≠ 1 then (s, Reply.plain .badValue)
    else match s.handable p target a.slot with
    | .inl st => (s, Reply.plain st)
    | .inr g =>
      let c : Grant := { g with rights := ⟨true, false, false⟩ }
      let s := (s.offer p target .copied c).note p target .copied TrackRec.notifyCopy c
      (s, Reply.doneWith (.number (s.custody.get target).inbound.length))

/-- PASS GRANT (R163). -/
def passGrant (p : Port) (a : PassArgs) (s : State) : State × Reply :=
  match portOfNumber a.target with
  | none => (s, Reply.plain .badValue)
  | some target =>
    if a.slot < 1 ∨ Config.grantSlots < a.slot then (s, Reply.plain .badValue)
    else match s.handable p target a.slot with
    | .inl st => (s, Reply.plain st)
    | .inr g =>
      let s := s.modCustody p (fun c => c.setSlot a.slot none)
      let s := (s.offer p target .passed g).note p target .passed TrackRec.notifyPass g
      (s, Reply.doneWith (.number (s.custody.get target).inbound.length))

/-- Take an entry into a slot of a table: united with the grant there, or placed (R165). -/
def takeInto (s : State) (p : Port) (e : Inbound) (k : Nat) (unite : Bool) : State × Reply :=
  let s := s.modCustody p (fun c =>
    let c := { c with inbound := c.inbound.tail }
    if unite then c.uniteSlot k e.grant.rights else c.setSlot k (some e.grant))
  let rights := match (s.custody.get p).slot k with
    | some g => g.rights
    | none => e.grant.rights
  (s, Reply.doneWith (.taken k e.grant.track rights e.kind e.sender))

/-- TAKE GRANT (R165). -/
def takeGrant (p : Port) (pref : Nat) (s : State) : State × Reply :=
  if Config.grantSlots < pref then (s, Reply.plain .badValue)
  else
    let c := s.custody.get p
    match c.inbound with
    | [] => (s, Reply.plain .noSuch)
    | e :: _ =>
      match c.slotOf e.grant.track with
      | some k => s.takeInto p e k true
      | none =>
        if pref = 0 then
          match c.freeSlot with
          | some k => s.takeInto p e k false
          | none => (s, Reply.plain .full)
        else match c.slot pref with
          | some g => (s, ⟨.badValue, .track g.track⟩)
          | none => s.takeInto p e pref false

/-- REFUSE GRANT (R166). -/
def refuseGrant (p : Port) (s : State) : State × Reply :=
  match (s.custody.get p).inbound with
  | [] => (s, Reply.plain .noSuch)
  | e :: _ =>
    if Config.inboundSize ≤ (s.custody.get e.sender).inbound.length then (s, Reply.plain .full)
    else
      let s := s.modCustody p (fun c => { c with inbound := c.inbound.tail })
      (s.offer p e.sender .returned e.grant, Reply.done)

/-- DROP GRANT (R167). -/
def dropGrant (p : Port) (slot : Nat) (s : State) : State × Reply :=
  if slot < 1 ∨ Config.grantSlots < slot then (s, Reply.plain .badValue)
  else match (s.custody.get p).slot slot with
  | none => (s, Reply.plain .noSuch)
  | some g =>
    if g.rights.close then (s, Reply.plain .conflict)
    else (s.modCustody p (fun c => c.setSlot slot none), Reply.doneWith (.track g.track))

def placePort : GrantPlace → Port
  | .table p _ => p
  | .queue p _ => p

def placeIsTable : GrantPlace → Bool
  | .table _ _ => true
  | .queue _ _ => false

/-- The grant at a place. -/
def grantAt (s : State) : GrantPlace → Option Grant
  | .table p k => (s.custody.get p).slot k
  | .queue p k => ((s.custody.get p).inbound[k - 1]?).map Inbound.grant

/-- A grant leaves its place (R168). -/
def leavePlace (s : State) : GrantPlace → State
  | .table p k => s.modCustody p (fun c => c.setSlot k none)
  | .queue p k => s.modCustody p (fun c => { c with inbound := c.inbound.eraseIdx (k - 1) })

/-- The grant moves from its place into a slot of the Crest table (R168). -/
def recallInto (s : State) (pl : GrantPlace) (g : Grant) (k : Nat) (unite : Bool) : State × Reply :=
  let s := (s.leavePlace pl).modCustody .crest (fun c =>
    if unite then c.uniteSlot k g.rights else c.setSlot k (some g))
  let former := placePort pl
  let s := if former = .crest then s
    else s.give (.grantNote former .recalled g.track g.rights .crest .crest (some (placeIsTable pl)))
  (s, Reply.doneWith (.recalled k former (placeIsTable pl)))

/-- RECALL GRANT (R168). -/
def recallGrant (t : Nat) (s : State) : State × Reply :=
  if (s.track? t).isNone then (s, Reply.plain .noSuch)
  else match s.closePlace t with
  | none => (s, Reply.plain .noSuch)
  | some (.table .crest k) => (s, Reply.doneWith (.number k))
  | some pl =>
    match s.grantAt pl with
    | none => (s, Reply.plain .noSuch)
    | some g =>
      match (s.custody.get .crest).slotOf t with
      | some k => s.recallInto pl g k true
      | none =>
        match (s.custody.get .crest).freeSlot with
        | some k => s.recallInto pl g k false
        | none => (s, Reply.plain .full)

end State

def execReadGrants (p : Port) (tag : Nat) (f : Fields Unit) (s : State) : Result :=
  request p tag 7 (.readGrants p tag f) (judge p 7 f (reading (fun _ => State.readGrants p))) s

def execCopyGrant (p : Port) (tag : Nat) (f : Fields CopyArgs) (s : State) : Result :=
  request p tag 72 (.copyGrant p tag f) (judge p 72 f (answered (State.copyGrant p))) s

def execPassGrant (p : Port) (tag : Nat) (f : Fields PassArgs) (s : State) : Result :=
  request p tag 73 (.passGrant p tag f) (judge p 73 f (answered (State.passGrant p))) s

def execTakeGrant (p : Port) (tag : Nat) (f : Fields Nat) (s : State) : Result :=
  request p tag 74 (.takeGrant p tag f) (judge p 74 f (answered (State.takeGrant p))) s

def execRefuseGrant (p : Port) (tag : Nat) (f : Fields Unit) (s : State) : Result :=
  request p tag 75 (.refuseGrant p tag f) (judge p 75 f (answered (fun _ => State.refuseGrant p))) s

def execDropGrant (p : Port) (tag : Nat) (f : Fields Nat) (s : State) : Result :=
  request p tag 76 (.dropGrant p tag f) (judge p 76 f (answered (State.dropGrant p))) s

def execRecallGrant (p : Port) (tag : Nat) (f : Fields Nat) (s : State) : Result :=
  request p tag 50 (.recallGrant p tag f) (judge p 50 f (answered State.recallGrant)) s

end Sys2Proof.Machine
end

