-- ==== Sys2Proof/Machine/ZoneOps.lean ====
section
/-! DEFINITION. ZoneOps.lean: the Zone Tracker: occupancy lists, attribution of passes, dwell and stalls, proven and
unproven sections (chapter 3). -/

namespace Sys2Proof.Machine

/-! ### Occupancy lists (R40, R43, R44, R45) -/

/-- Where a pass places its axle (R43). -/
inductive Place where
  | tail | head | cutOrder
  deriving DecidableEq, Repr

def Occupant.isLater (o : Occupant) (c : CutId) : Bool :=
  match o with
  | .cut d => CutId.before c d
  | .unidentified => false

def Occupant.isCut : Occupant → Bool
  | .cut _ => true
  | .unidentified => false

/-- One more axle in the entry of an occupant's place in the list. -/
def OccEntry.more (e : OccEntry) : OccEntry := { e with count := e.count + 1 }

/-- The tail entry takes one more axle (R43, R44). -/
def growTail : List OccEntry → List OccEntry
  | [] => []
  | [e] => [e.more]
  | e :: es => e :: growTail es

def growHead : List OccEntry → List OccEntry
  | [] => []
  | e :: es => e.more :: es

/-- A cut's entry takes one more axle. -/
def growCut (c : CutId) (l : List OccEntry) : List OccEntry :=
  l.map (fun e => if e.occ = .cut c then e.more else e)

def tailOcc (l : List OccEntry) : Option Occupant := l.getLast?.map OccEntry.occ
def headOcc (l : List OccEntry) : Option Occupant := l.head?.map OccEntry.occ

/-- Insert a new entry of cut `c` immediately downstream of the first entry of a later cut. -/
def insertBeforeLater (c : CutId) : List OccEntry → List OccEntry
  | [] => []
  | e :: es => if e.occ.isLater c then ⟨.cut c, 1⟩ :: e :: es else e :: insertBeforeLater c es

/-- A new entry by cut order (R43). -/
def insertByOrder (c : CutId) (l : List OccEntry) : List OccEntry :=
  if l.any (fun e => e.occ.isLater c) then insertBeforeLater c l
  else
    let after := (l.reverse.takeWhile (fun e => !e.occ.isCut)).reverse
    if l.any (fun e => e.occ.isCut) then l.take (l.length - after.length) ++ ⟨.cut c, 1⟩ :: after
    else ⟨.cut c, 1⟩ :: l

/-- The list after an axle joins an entry that stands for it, if one does (R43). -/
def joinEntry (a : Occupant) (place : Place) (l : List OccEntry) : Option (List OccEntry) :=
  match a with
  | .cut c => if l.any (fun e => e.occ == .cut c) then some (growCut c l) else none
  | .unidentified =>
    match place with
    | .head => if headOcc l = some .unidentified then some (growHead l) else none
    | _ => if tailOcc l = some .unidentified then some (growTail l) else none

/-- The list with a new entry for an axle (R43). -/
def newEntry (a : Occupant) (place : Place) (l : List OccEntry) : List OccEntry :=
  match a with
  | .cut c =>
    match place with
    | .head => ⟨.cut c, 1⟩ :: l
    | .tail => if l.any (fun e => e.occ.isLater c) then insertByOrder c l else l ++ [⟨.cut c, 1⟩]
    | .cutOrder => insertByOrder c l
  | .unidentified =>
    match place with
    | .head => ⟨.unidentified, 1⟩ :: l
    | _ => l ++ [⟨.unidentified, 1⟩]

/-- Place an axle: the new list, and the tail's occupant when the section is crowded (R43, R44). -/
def placeAxle (a : Occupant) (place : Place) (l : List OccEntry) : List OccEntry × Option Occupant :=
  match joinEntry a place l with
  | some l' => (l', none)
  | none => if Config.occupancySize ≤ l.length then (growTail l, tailOcc l) else (newEntry a place l, none)

/-- Two UNIDENTIFIED entries that stand next to each other become one (R40). -/
def mergeUnidentified : List OccEntry → List OccEntry
  | [] => []
  | e :: es =>
    match mergeUnidentified es with
    | [] => [e]
    | f :: fs =>
      if e.occ = .unidentified ∧ f.occ = .unidentified then ⟨.unidentified, e.count + f.count⟩ :: fs
      else e :: f :: fs

/-- Take an axle out of the head entry (R45). -/
def takeHead : List OccEntry → List OccEntry
  | [] => []
  | e :: es => if e.count ≤ 1 then es else { e with count := e.count - 1 } :: es

/-- Take an axle out of the tail entry (R45). -/
def takeTail : List OccEntry → List OccEntry
  | [] => []
  | [e] => if e.count ≤ 1 then [] else [{ e with count := e.count - 1 }]
  | e :: es => e :: takeTail es

def Dwell.isExpired : Dwell → Bool
  | .expired _ => true
  | _ => false

/-- The outlet an exit register holds for a cut (R39). -/
def exitOf (r : SectionRec) (c : CutId) : Option Pos := (r.exits.find? (fun e => e.cut == c)).map ExitItem.outlet

/-- A change of held axles that the Zone Tracker reports to the Route Planner (R54). -/
inductive HeldReport where
  | less (c : CutId) | more (c : CutId)
  deriving DecidableEq, Repr

/-- What a forward axle at an outlet is on the side it joins (R48): its attribution there, whether the pass is the cut's
head pass, and the held axles to report. -/
structure Attribution where
  occ : Occupant
  head : Bool
  held : List HeldReport
  deriving DecidableEq, Repr

namespace State

/-! ### Proven and unproven (R56) -/

/-- A section becomes UNPROVEN; in ACTIVE that raises UNPROVEN (R56). -/
def unproveSection (s : State) (n : Nat) : State :=
  if s.sectionProven n then
    let s := s.modSection n (fun r => { r with proven := false })
    if s.mode = .active then s.raise .zoneTracker .unproven else s
  else s

def anyUnproven (s : State) : Bool := s.sections.any (fun r => !r.proven)
def anyExpired (s : State) : Bool := s.sections.any (fun r => r.dwell.isExpired)

/-! ### Dwell (R58, R60) -/

/-- A section has left EXPIRED: CUT MOVING, the cut's stalled mark, STALL (R60). -/
def endStall (s : State) (n : Nat) (o : Occupant) (cause : MovingCause) : State :=
  let s := s.give (.cutMoving n o cause)
  let s := match o with
    | .cut c =>
      if s.sections.any (fun r => r.dwell.isExpired && headOcc r.occ == some (.cut c)) then s
      else s.modCut c (fun r => { r with stalled := false })
    | .unidentified => s
  if s.anyExpired then s else s.clear .zoneTracker .stall

/-- The dwell state after a list change that a pass with attribution `a` made on this section's side (R58). -/
def dwellAfter (now : YardTime) (r : SectionRec) (a : Occupant) (l : List OccEntry) : Dwell :=
  if l.isEmpty then .stopped
  else match r.dwell with
    | .stopped => .running now
    | d => if headOcc r.occ = some a ∨ headOcc l ≠ headOcc r.occ then .running now else d

/-- A pass changes a section's list: the list, the dwell timer and the end of a stall (R58, R60). -/
def passList (s : State) (n : Nat) (a : Occupant) (l : List OccEntry) : State :=
  match s.sectionAt? n with
  | none => s
  | some r =>
    let d := dwellAfter s.now r a l
    let s := s.modSection n (fun r => { r with occ := l, dwell := d })
    match headOcc r.occ with
    | some o =>
      if r.dwell.isExpired && !d.isExpired then
        s.endStall n o (if o = a then .pass else .headChanged)
      else s
    | none => s

/-! ### Axles leaving and joining (R43 to R46) -/

/-- An axle leaves a section by its head (forward) or tail (backward); an empty section is taken by R46. Answers the
attribution on leaving, and whether the section has become empty. -/
def leaveSection (s : State) (n : Nat) (p : Pass) : State × Occupant × Bool :=
  match s.sectionAt? n with
  | none => (s, .unidentified, false)
  | some r =>
    let out := match p.dir with
      | .forward => (headOcc r.occ, mergeUnidentified (takeHead r.occ))
      | .backward => (tailOcc r.occ, mergeUnidentified (takeTail r.occ))
    match out.1 with
    | some a => (s.passList n a out.2, a, out.2.isEmpty)
    | none =>
      ((s.unproveSection n).trackingFault .zoneTracker (.unidentifiedAxle p.sensor p.dir (some n) none none),
       .unidentified, false)

/-- An axle joins a section; a crowded one is given to the tail entry, with the held axles to report (R43, R44). -/
def joinSection (s : State) (n : Nat) (a : Occupant) (place : Place) (x : Sensor) : State × List HeldReport :=
  match s.sectionAt? n with
  | none => (s, [])
  | some r =>
    match placeAxle a place r.occ with
    | (l, none) => (s.passList n a l, [])
    | (l, some tail) =>
      ((s.passList n tail l).trackingFault .zoneTracker (.crowded x n a tail),
       (match a with
        | .cut c => [HeldReport.less c]
        | .unidentified => []) ++
       (match tail with
        | .cut c => [HeldReport.more c]
        | .unidentified => []))

/-- The Route Planner takes the reports of held axles, each with its retirement check (R54, R120). -/
def takeHeld (s : State) (reports : List HeldReport) : State :=
  reports.foldl (fun s h =>
    match h with
    | .less c => (s.modCut c (fun r => { r with held := r.held - 1 })).retireCheck c
    | .more c => (s.modCut c (fun r => { r with held := r.held + 1 })).retireCheck c) s

/-- Point Control hears of the section a pass has emptied, after the Route Planner's work (R42, R55). -/
def afterEmpty (s : State) (n : Nat) (emptied : Bool) : State := if emptied then s.sectionReport n else s

/-! ### Passes (R47 to R52) -/

/-- An axle forward over K joins the root section with the Crest Tracker's attribution; one marked first is the cut's head
pass at K (R47, R53). The head pass is taken before the changes of held axles (log entry 52). -/
def forwardAtK (s : State) (a : Occupant) (first : Bool) (p : Pass) : State :=
  match s.layout.root? with
  | none => s
  | some n =>
    let j := s.joinSection n a .tail .k
    let s := match a with
      | .cut c => if first then j.1.headPass c p none (.point n) else j.1
      | .unidentified => j.1
    s.takeHeld j.2

/-- The table of R48: exit register, SPLIT CUT. -/
def attributeAxle (s : State) (st : Step) (x : Sensor) (a : Occupant) : State × Attribution :=
  match a with
  | .unidentified => (s, ⟨.unidentified, false, []⟩)
  | .cut c =>
    match (s.sectionAt? st.point).bind (fun r => exitOf r c) with
    | none => (s.modSection st.point (fun r => { r with exits := r.exits ++ [⟨c, st.pos⟩] }), ⟨.cut c, true, []⟩)
    | some o =>
      if o = st.pos then (s, ⟨.cut c, false, []⟩)
      else (s.trackingFault .zoneTracker (.splitCut x st.point c o st.pos), ⟨.unidentified, false, [.less c]⟩)

/-- Report a head pass at an outlet sensor when the pass is one (R53). -/
def reportHead (s : State) (a : Occupant) (t : Attribution) (p : Pass) (st : Step) (zone : Target) : State :=
  match a with
  | .cut c => if t.head then s.headPass c p (some st) zone else s
  | .unidentified => s

/-- An identified axle has entered a track: last arrived cut, arrived axles, retirement check (R49, R54). -/
def axleArrived (s : State) (c : CutId) : State :=
  (s.modCut c (fun r => { r with arrived := r.arrived + 1 })).retireCheck c

/-- A forward pass at an outlet sensor (R48, R49). A stall that the pass ends is reported before the head pass it makes, so that
head pass already gives predictions (R60, R119; log entry 38). The notices of the side left come before those of the side joined
(R42; log entry 45), the head pass before the changes of held axles (R44, R53; log entry 52), and a track that the axle makes FULL
has its notice before that of the cut's retirement (R158; log entry 53). -/
def forwardAtOutlet (s : State) (st : Step) (p : Pass) : State :=
  match s.layout.targetOf st with
  | none => s
  | some zone =>
    let (s1, a, emptied) := s.leaveSection st.point p
    let (s2, t) := s1.attributeAxle st p.sensor a
    let s3 := match zone with
      | .point q =>
        let j := s2.joinSection q t.occ .tail p.sensor
        (j.1.reportHead a t p st zone).takeHeld (t.held ++ j.2)
      | .track n =>
        let s := s2.fillUp n
        match t.occ with
        | .cut c =>
          let s := s.modTrack n (fun r => { r with lastArrived := some c })
          ((s.reportHead a t p st zone).axleArrived c).takeHeld t.held
        | .unidentified => s.takeHeld t.held
    s3.afterEmpty st.point emptied

/-- A backward pass at an outlet sensor whose outlet targets a point (R50). -/
def backwardToPoint (s : State) (st : Step) (q : Nat) (p : Pass) : State :=
  let (s1, a, emptied) := s.leaveSection q p
  let j := s1.joinSection st.point a (if a.isCut then .cutOrder else .tail) p.sensor
  (j.1.takeHeld j.2).afterEmpty q emptied

/-- Whose axle comes back out of a track: the last arrived cut when it is live and has arrived axles (R52). -/
def backwardAttribution (s : State) (t : Nat) : Occupant :=
  match (s.track? t).bind TrackRec.lastArrived with
  | some c =>
    match s.cut? c with
    | some r => if 1 ≤ r.arrived then .cut c else .unidentified
    | none => .unidentified
  | none => .unidentified

/-- A backward pass at an outlet sensor whose outlet targets a track (R52). -/
def backwardFromTrack (s : State) (st : Step) (t : Nat) (p : Pass) : State :=
  let underrun : Bool := match s.track? t with
    | some r => r.fill == 0
    | none => false
  let a := s.backwardAttribution t
  let s := s.fillDown t
  let s := if underrun then s.trackingFault .zoneTracker (.trackUnderrun p.sensor t) else s
  let j := s.joinSection st.point a (if a.isCut then .cutOrder else .head) p.sensor
  let s := match a with
    | .cut c => (j.1.modCut c (fun r => { r with arrived := r.arrived - 1 })).retireCheck c
    | .unidentified => j.1
  s.takeHeld j.2

/-- A backward pass at an outlet sensor. -/
def backwardAtOutlet (s : State) (st : Step) (p : Pass) : State :=
  match s.layout.targetOf st with
  | none => s
  | some (.point q) => s.backwardToPoint st q p
  | some (.track t) => s.backwardFromTrack st t p

/-! ### CLEAR SECTION (R57) -/

def identifiedAxles (l : List OccEntry) : Nat := ((l.filter (fun e => e.occ.isCut)).map OccEntry.count).sum
def unidentifiedAxles (l : List OccEntry) : Nat := ((l.filter (fun e => !e.occ.isCut)).map OccEntry.count).sum

/-- The Route Planner takes the fall of a cut's held axles by the entry removed (R54, R57). -/
def loseEntry (s : State) (e : OccEntry) : State :=
  match e.occ with
  | .cut c => (s.modCut c (fun r => { r with held := r.held - e.count })).retireCheck c
  | .unidentified => s

/-- Clear one section: empty, PROVEN, dwell STOPPED; the entries' held axles are reported, from head to tail (log entry 44), then
CUT MOVING follows if the dwell state was EXPIRED; the exit register is kept (R57). -/
def clearOne (s : State) (n : Nat) : State :=
  match s.sectionAt? n with
  | none => s
  | some r =>
    let s := s.modSection n (fun r => { r with occ := [], dwell := .stopped, proven := true })
    let s := r.occ.foldl loseEntry s
    let s := match headOcc r.occ with
      | some o => if r.dwell.isExpired then s.endStall n o .cleared else s
      | none => s
    if r.occ.isEmpty && r.proven then s else s.sectionReport n

end State

end Sys2Proof.Machine
end

