-- ==== Sys2Proof/Machine/CrestOps.lean ====
section
/-! DEFINITION. CrestOps.lean: the Crest Tracker (chapter 5). -/

namespace Sys2Proof.Machine

/-- A speed as the crest counts it: "not measured" is 20 cm/s (R87, R91). -/
def crestSpeed (v : Option Nat) : Nat := v.getD Config.unmeasuredSpeed

/-- Duration of the gap timer in ms, rounded up (R87). -/
def gapDuration (separation : Nat) (v : Option Nat) : Nat :=
  (separation * 1000 + crestSpeed v - 1) / crestSpeed v

/-- The gap of a forward pass in cm, measured from the last pass (R91). -/
def measuredGap (c : Crest) (time : YardTime) : Nat :=
  match c.lastTime with
  | some t => YardTime.since time t * crestSpeed (c.lastSpeed.getD none) / 1000
  | none => 0

namespace State

/-- Last axle time and speed follow every pass at K (R83). -/
def crestSeen (s : State) (p : Pass) : State :=
  { s with crest := { s.crest with lastTime := some p.time, lastSpeed := some p.speed } }

/-- SEPARATING with the gap timer started, or restarted, now (R87). -/
def separate (s : State) (v : Option Nat) : State :=
  { s with crest := { s.crest with
      phase := .separating,
      gap := some (s.now + BitVec.ofNat 32 (gapDuration s.layout.separation v)) } }

/-- Set crest state, current and countdown; the gap timer is stopped (R84, R89, R92, R93). -/
def crestForming (s : State) (current : Occupant) (countdown : Nat) : State :=
  { s with crest := { s.crest with phase := .forming, current := some current, countdown := countdown, gap := none } }

/-- Return to IDLE keeping the last axle's time and speed (R88). -/
def crestToIdle (s : State) : State :=
  { s with crest := { s.crest with
      phase := .idle, current := none, countdown := 0, overlength := 0, gap := none } }

/-- An axle is counted to a cut (R83). -/
def countAxle (s : State) (c : CutId) : State :=
  s.modCut c (fun r => { r with counted := r.counted + 1, held := r.held + 1 })

/-- An UNIDENTIFIED AXLE fault of the Crest Tracker (R90, R93, R94, R97). -/
def crestFault (s : State) (cause : AxleCause) (short : Option (CutId × Nat)) : State :=
  s.trackingFault .crestTracker (.unidentifiedAxle .k .forward none (some cause) short)

/-- Release of the STAGED record by a forward axle in IDLE (R84, R85). -/
def release (s : State) (r : CutRec) (p : Pass) : State :=
  let unaccepted : Bool := r.cls = .restricted ∧ ¬ r.accepted
  let s := s.modCut r.id (fun r =>
    { r with state := .forming, counted := 1, held := 1, released := some p.time })
  let s := ({ s with crest := { s.crest with overlength := 0 } }).crestForming (.cut r.id) (r.expected - 1)
  let s := if unaccepted then s.raise .crestTracker .trackingFault else s
  let s := (s.give (.cutReleased r.id r.expected r.dest r.status r.cls unaccepted r.tag p.speed p.time)).stagedLeft
  s.forwardAtK (.cut r.id) true p

/-- A forward axle in IDLE with no STAGED record begins an unidentified run (R94). -/
def beginRun (s : State) (p : Pass) : State :=
  let s := { s with crest := { s.crest with current := some .unidentified, countdown := 0, overlength := 0 } }
  ((s.separate p.speed).crestFault .noStagedCut none).forwardAtK .unidentified false p

/-- A forward axle in IDLE (R84, R94). -/
def crestIdle (s : State) (p : Pass) : State :=
  match s.staged? with
  | some r => s.release r p
  | none => s.beginRun p

/-- A forward axle counted to the current cut (R86). -/
def countDown (s : State) (c : CutId) (p : Pass) : State :=
  let s := s.countAxle c
  let n := s.crest.countdown - 1
  let s := { s with crest := { s.crest with countdown := n } }
  (if n = 0 then s.separate p.speed else s).forwardAtK (.cut c) false p

/-- The record of a fragment of `r` (R92). -/
def fragmentRecord (r : CutRec) (expected : Nat) (time : YardTime) : CutRec :=
  { r with id := ⟨r.id.roll, r.id.frag + 1⟩, state := .forming, stalled := false, expected := expected, counted := 1,
           held := 1, arrived := 0, merged := [], frontier := some 0, head := none, speed := none,
           released := some time }

/-- An early separation with a fragment (R91, R92). The short cut's retirement check follows the fragment's creation
(log entry 27). -/
def makeFragment (s : State) (r : CutRec) (gap : Nat) (p : Pass) : State :=
  let n := s.crest.countdown
  let f := fragmentRecord r n p.time
  let s := s.modCut r.id (fun r => { r with state := .rolling })
  let s := { s with cuts := s.cuts ++ [f] }
  let s := (s.insertDemands f.id f.path).commitRise f.dest
  let s := ({ s with crest := { s.crest with overlength := 0 } }).crestForming (.cut f.id) (n - 1)
  let s := s.give (.cutFragment r.id r.counted f.id n f.dest gap)
  (s.retireCheck r.id).forwardAtK (.cut f.id) true p

/-- An early separation whose fragment cannot be made. Where f was 3 the cause is FRAGMENT LIMIT, whether or not room was short as
well (R93; log entry 47). -/
def noFragment (s : State) (r : CutRec) (p : Pass) : State :=
  let n := s.crest.countdown
  let cause : AxleCause := if Config.fragmentLimit ≤ r.id.frag then .fragmentLimit else .noRoom
  let s := s.modCut r.id (fun r => { r with state := .rolling })
  let s := ({ s with crest := { s.crest with overlength := 0 } }).crestForming .unidentified (n - 1)
  let s := (s.crestFault cause (some (r.id, n))).raise .crestTracker .capacity
  (s.retireCheck r.id).forwardAtK .unidentified false p

/-- A forward axle in FORMING with a cut as current (R86, R91). `s` has the last axle of the crest not yet overwritten. A gap
measured from a backward pass of the cut separates it as any other does (R95; log entry 57). -/
def crestForm (s : State) (r : CutRec) (p : Pass) : State :=
  let gap := measuredGap s.crest p.time
  let s' := s.crestSeen p
  if r.counted = 0 ∨ gap < s.layout.separation ∨ s.crest.countdown ≤ 1 then s'.countDown r.id p
  else if r.id.frag < Config.fragmentLimit ∧ s.cuts.length < Config.cutTableSize ∧ r.path.length ≤ s.poolFree then
    s'.makeFragment r gap p
  else s'.noFragment r p

/-- A merge: the STAGED record is consumed into the current cut (R89). -/
def mergeStaged (s : State) (c : CutRec) (t : CutRec) (p : Pass) : State :=
  let unaccepted : Bool := t.cls = .restricted ∧ ¬ t.accepted
  let s := (s.freeRecord t none).stagedLeft
  let s := s.modCut c.id (fun r => { r with expected := r.expected + t.expected, merged := r.merged ++ [t.id.roll] })
  let s := (s.countAxle c.id).crestForming (.cut c.id) (t.expected - 1)
  let s := if unaccepted then s.raise .crestTracker .trackingFault else s
  let s := s.give (.cutMerged c.id (some t.id.roll) (some t.dest) (c.expected + t.expected) (c.merged.length + 1)
    unaccepted)
  s.forwardAtK (.cut c.id) false p

/-- An overlength axle, or an UNIDENTIFIED one at 384 expected axles (R90). -/
def overlengthAxle (s : State) (c : CutRec) (p : Pass) : State :=
  if c.expected < Config.axleLimit then
    let s := (s.countAxle c.id).modCut c.id (fun r => { r with expected := r.expected + 1 })
    let s := ({ s with crest := { s.crest with overlength := s.crest.overlength + 1 } }).separate p.speed
    (s.give (.cutMerged c.id none none (c.expected + 1) c.merged.length false)).forwardAtK (.cut c.id) false p
  else
    ((s.separate p.speed).crestFault .overlengthLimit none).forwardAtK .unidentified false p

/-- A forward axle in SEPARATING with a cut as current (R89, R90). -/
def crestSeparating (s : State) (c : CutRec) (p : Pass) : State :=
  match s.staged? with
  | some t =>
    if c.merged.length < Config.mergeLimit ∧ c.expected + t.expected ≤ Config.axleLimit then s.mergeStaged c t p
    else s.overlengthAxle c p
  | none => s.overlengthAxle c p

/-- A forward axle with current UNIDENTIFIED in FORMING (R94). An axle that ends the run by its gap and finds no STAGED record
begins a new run with a notice of its own (log entry 40). -/
def runForming (s : State) (p : Pass) : State :=
  let gap := measuredGap s.crest p.time
  let s' := s.crestSeen p
  if gap < s.layout.separation then
    let n := s'.crest.countdown - 1
    let s' := { s' with crest := { s'.crest with countdown := n } }
    (if n = 0 then s'.separate p.speed else s').forwardAtK .unidentified false p
  else s'.crestToIdle.crestIdle p

/-- The Crest Tracker takes a forward pass at K (R83). -/
def crestForward (s : State) (p : Pass) : State :=
  match s.crest.phase, s.crest.current with
  | .idle, _ => (s.crestSeen p).crestIdle p
  | .forming, some (.cut c) =>
    match s.cut? c with
    | some r => s.crestForm r p
    | none => s
  | .forming, _ => s.runForming p
  | .separating, some (.cut c) =>
    match s.cut? c with
    | some r => (s.crestSeen p).crestSeparating r p
    | none => s
  | .separating, _ => ((s.crestSeen p).separate p.speed).forwardAtK .unidentified false p

/-- The demands a return to STAGED inserts: the steps before the old frontier (R96 step 2). -/
def returnedSteps (r : CutRec) : List Step :=
  match r.frontier with
  | some f => r.path.take f
  | none => r.path

/-- A current cut left with no axles returns to STAGED (R96). The un-staging of another record brings no staging attempt; that of
the returned one, in ACTIVE, is told to the Roll List (R72, R79). -/
def returnToStaged (s : State) (r : CutRec) : State :=
  let s := s.unstageIfStaged
  let steps := returnedSteps r
  let short : Bool := s.poolFree < steps.length
  let r' := { r with state := .staged, released := none, head := none, speed := none, stalled := false,
                     frontier := some 0 }
  let s := (s.modCut r.id (fun _ => r')).forgetExits r.id
  let s := if short then s else (s.insertDemands r.id steps).predict r.id
  let s := { s with crest := Crest.idle }
  let s := s.give (stagedNotice r' .staged)
  let s := ((s.clear .rollList .listEmpty).clear .rollList .nextUnroutable).clear .rollList .capacity
  let s := s.raiseRestricted r'
  let u := if short ∨ s.mode = .draining then s.unstage r' else s.recheck
  if u.mode = .active ∧ u.staged?.isNone then u.stagedLeft else u

/-- A backward axle of the current cut (R95, first case). -/
def backCurrent (s : State) (r : CutRec) : State :=
  let s := s.modCut r.id (fun r => { r with counted := r.counted - 1, held := r.held - 1 })
  let s := { s with crest := { s.crest with
      countdown := if 0 < r.counted then s.crest.countdown + 1 else s.crest.countdown,
      phase := .forming, gap := none } }
  match s.cut? r.id with
  | some x =>
    if x.held = 0 ∧ x.counted = 0 ∧ x.id.frag = 0 ∧ x.merged = [] ∧ s.crest.overlength = 0 then s.returnToStaged x
    else s
  | none => s

/-- The Crest Tracker takes a backward axle with its attribution on leaving the root section (R95). -/
def crestBackward (s : State) (a : Occupant) (p : Pass) : State :=
  let s := s.crestSeen p
  match a with
  | .cut c =>
    match s.cut? c with
    | none => s
    | some r =>
      if s.crest.current = some (.cut c) then s.backCurrent r
      else
        (s.modCut c (fun r => { r with counted := r.counted - 1, held := r.held - 1 })).retireCheck c
  | .unidentified =>
    if s.crest.current = some .unidentified then
      { s with crest := { s.crest with
          countdown := min (s.crest.countdown + 1) 383, phase := .forming, gap := none } }
    else s

/-- A backward pass at K: out of the root section's tail, then to the Crest Tracker (R51, R95). -/
def backwardAtK (s : State) (p : Pass) : State :=
  match s.layout.root? with
  | none => s
  | some n =>
    let (s1, a, emptied) := s.leaveSection n p
    (s1.crestBackward a p).afterEmpty n emptied

/-- A pass handed on by the Sensor Front End (R31, R42). -/
def takePass (s : State) (p : Pass) : State :=
  match p.sensor, p.dir with
  | .k, .forward => s.crestForward p
  | .k, .backward => s.backwardAtK p
  | .out n o, .forward => s.forwardAtOutlet ⟨n, o⟩ p
  | .out n o, .backward => s.backwardAtOutlet ⟨n, o⟩ p

/-- The gap timer has run out: the current cut is separated, or the run ends (R88, R94). -/
def gapExpired (s : State) : State :=
  match s.crest.current with
  | some (.cut c) => ((s.modCut c (fun r => { r with state := .rolling })).crestToIdle).retireCheck c
  | _ => { s with crest := Crest.idle }

end State

end Sys2Proof.Machine
end

