-- ==== Sys2Proof/Machine/SensorOps.lean ====
section
/-! DEFINITION. SensorOps.lean: the Sensor Front End: filtering, sequences, speed, standing and disturbance (chapter 2),
and the qualification of raw changes it shares with Point Control's inputs (R25, R124). -/

namespace Sys2Proof.Machine

/-! ### Raw changes waiting to qualify (R25, R124) -/

/-- A raw edge at clock `now` with qualification time `wait`: a change that has not yet qualified is discarded by the return
to the old level, else the edge starts a qualification of its own. -/
def rawEdge (now wait : Nat) (level : Bool) (owed : List RawChange) : List RawChange :=
  match owed.getLast? with
  | some e => if now < e.edge + wait then owed.dropLast else owed ++ [⟨level, now⟩]
  | none => owed ++ [⟨level, now⟩]

/-- The clock value at which the oldest waiting change qualifies, if that moment has come. -/
def qualified (now wait : Nat) (owed : List RawChange) : Option Nat :=
  match owed with
  | e :: _ => if e.edge + wait ≤ now then some (e.edge + wait) else none
  | [] => none

/-- The level and the waiting changes a head or an input keeps when its record is made anew: changes that have qualified
are in the level, the others still wait (R24, R25, R124; log entry 9). -/
def settleOwed (now wait : Nat) (level : Bool) : List RawChange → Bool × List RawChange
  | [] => (level, [])
  | e :: es => if e.edge + wait ≤ now then settleOwed now wait e.level es else (level, e :: es)

/-! ### One head of a sensor -/

def SensorRec.head (r : SensorRec) : Head → HeadRec
  | .a => r.a
  | .b => r.b

def SensorRec.setHead (r : SensorRec) (h : Head) (x : HeadRec) : SensorRec :=
  match h with
  | .a => { r with a := x }
  | .b => { r with b := x }

def otherHead : Head → Head
  | .a => .b
  | .b => .a

/-- When the filtered edge that is due at a head is dated, if one is due. -/
def SensorRec.edgeDue (r : SensorRec) (now : Nat) (h : Head) : Option Nat := qualified now r.filter (r.head h).owed

/-- The head whose filtered edge is taken next: the earlier dated, head A first at the same date (R27). -/
def SensorRec.nextEdge (r : SensorRec) (now : Nat) : Option (Head × Nat) :=
  match r.edgeDue now .a, r.edgeDue now .b with
  | some x, some y => if x ≤ y then some (.a, x) else some (.b, y)
  | some x, none => some (.a, x)
  | none, some y => some (.b, y)
  | none, none => none

/-- Some head whose standing timer has expired is still on (R33). -/
def SensorRec.expiredOn (r : SensorRec) : Bool :=
  (r.a.level && r.a.timer == .expired) || (r.b.level && r.b.timer == .expired)

/-- The speed of a pass in cm/s, or "not measured" (R30). `t` is in hundredths of a millisecond. -/
def passSpeed (spacing t : Nat) : Option Nat :=
  let v := spacing * 100 * Config.ticksPerMs / t
  if t = 0 ∨ v < 20 ∨ 3000 < v then none else some v

/-- What a sequence was (R29). -/
inductive SequenceEnd where
  | pass (d : Direction)
  | returned
  | disturbance
  deriving DecidableEq, Repr

/-- The classification of R29: the phase, whether the other head came on, the head released last. -/
def classify (ph : Phase) (other : Bool) (lastHead : Head) : SequenceEnd :=
  if !other then .disturbance
  else match ph, lastHead with
    | .aFirst, .b => .pass .forward
    | .bFirst, .a => .pass .backward
    | _, _ => .returned

/-- A filtered edge changes the head's level and its standing timer (R28, R32). -/
def SensorRec.edgeLevel (r : SensorRec) (h : Head) (e : RawChange) (at' : Nat) : SensorRec :=
  r.setHead h { level := e.level, owed := (r.head h).owed.tail,
                timer := if e.level then .running at' else .stopped }

/-- The edge as the sequence sees it: settling, onsets, and the end of a sequence (R24, R27, R28, R29). -/
def SensorRec.edgeSequence (r : SensorRec) (h : Head) (level : Bool) (at' : Nat) : SensorRec × Option SequenceEnd :=
  let off := !r.a.level && !r.b.level
  if r.settling then ({ r with settling := !off }, none)
  else match r.phase with
  | .idle =>
    if level then
      ({ r with phase := match h with
                | .a => .aFirst
                | .b => .bFirst,
                first := some at', second := none }, none)
    else (r, none)
  | ph =>
    let isOther : Bool := match ph, h with
      | .aFirst, .b => true
      | .bFirst, .a => true
      | _, _ => false
    if level then (if isOther && r.second.isNone then { r with second := some at' } else r, none)
    else if off then
      ({ r with phase := .idle, first := none, second := none }, some (classify ph r.second.isSome h))
    else (r, none)

/-- The disturbance count after a sequence (R29, R34). -/
def countAfter (limit count : Nat) : SequenceEnd → Nat
  | .disturbance => min (count + 1) limit
  | _ => 0

namespace State

/-- A sensor becomes DISTURBED: sections UNPROVEN, TRACKING FAULT notice and reason (R35). The SENSOR STATE notice comes
between, from `setCondition`. -/
def unproveAround (s : State) (x : Sensor) : State := (s.layout.sectionsOf x).foldl unproveSection s

/-- Change a sensor's condition, with a SENSOR STATE notice when it changes (R38). -/
def setCondition (s : State) (x : Sensor) (before now : Condition) : State :=
  if now = before then s
  else
    let s := s.modSensor x (fun r => { r with condition := now })
    s.give (.sensorState x now before (match s.sensor? x with
      | some r => r.disturb
      | none => 0))

/-- The condition after an edge: STANDING ends with the last expired head (R33), and a count that reaches the limit makes
the sensor DISTURBED (R35). -/
def conditionAfter (s : State) (r : SensorRec) (e : Option SequenceEnd) : Condition :=
  match r.condition with
  | .disturbed => .disturbed
  | c =>
    if e = some .disturbance ∧ s.layout.disturbanceLimit ≤ r.disturb then .disturbed
    else if c = .standing ∧ !r.expiredOn then .normal
    else c

/-- What follows from an edge's new condition (R33, R35). -/
def applyCondition (s : State) (x : Sensor) (before now : Condition) : State :=
  if now = .disturbed ∧ before ≠ .disturbed then
    ((s.unproveAround x).setCondition x before now).trackingFault .sensorFrontEnd (.sensorDisturbed x)
  else s.setCondition x before now

/-- A filtered edge of a head (R27 to R36): record, condition, and the pass handed on. -/
def takeEdge (s : State) (r : SensorRec) (h : Head) (e : RawChange) (at' : Nat) : State :=
  let r1 := r.edgeLevel h e at'
  let (r2, fin) := r1.edgeSequence h e.level at'
  let r3 := match fin with
    | some f => { r2 with disturb := countAfter s.layout.disturbanceLimit r2.disturb f }
    | none => r2
  let cond := s.conditionAfter r3 fin
  let s := (s.modSensor r.sensor (fun _ => r3)).applyCondition r.sensor r3.condition cond
  match fin, r1.first, r1.second with
  | some (.pass d), some t1, some t2 => s.takePass ⟨r.sensor, d, passSpeed r.spacing (t2 - t1), yardOf t2⟩
  | _, _, _ => s

/-- Some sensor is DISTURBED (R177). -/
def disturbedSensors (s : State) : List Sensor :=
  (s.sensors.filter (fun r => r.condition == .disturbed)).map SensorRec.sensor

def isDisturbed (s : State) (x : Sensor) : Bool :=
  match s.sensor? x with
  | some r => r.condition == .disturbed
  | none => false

end State

end Sys2Proof.Machine
end

