-- ==== Sys2Proof/Machine/Holds.lean ====
section
/-! DEFINITION. Holds.lean: the masters' requests on the hold set (sections 9.4, 9.5). -/

namespace Sys2Proof.Machine

namespace State

/-- The raises and clears of a request go to the Hold Unit as one update, and the answer shows the set after it (R172,
R174 to R178). -/
def masterHold (code : Nat) (p : Port) (ops : List HoldOp) (s : State) : State × Reply :=
  ({ s with holdInbox := s.holdInbox ++ ops.map (fun o => ⟨.request code p, o⟩) },
   Reply.doneWith (.holds (s.holds.update s.now ops)))

/-- What RELEASE HUMP clears (R176). -/
def releaseOps : Port → List HoldOp
  | .crest => [.clear .operator, .clear .urgent]
  | p => [.removeUrgent p]

/-- The UNIDENTIFIED entries of all occupancy lists, with their points, in ascending order (R177). -/
def unidentifiedEntries (s : State) : List (Nat × Nat) :=
  (s.sections.map (fun r => (r.occ.filter (fun e => !e.occ.isCut)).map (fun e => (r.point, e.count)))).flatten

/-- ACK TRACKING (R177). -/
def ackTracking (p : Port) (s : State) : State × Reply :=
  if !s.holds.has .trackingFault then (s, Reply.done)
  else match s.unidentifiedEntries with
  | (n, k) :: rest =>
    (s, ⟨.conflict, .unidentified (rest.length + 1) (k + (rest.map (fun e => e.2)).sum) n⟩)
  | [] =>
    match s.disturbedSensors with
    | x :: rest => (s, ⟨.conflict, .disturbed (rest.length + 1) x⟩)
    | [] => s.masterHold 46 p [.clear .trackingFault]

end State

/-- HOLD HUMP (R174). -/
def execHoldHump (p : Port) (tag : Nat) (f : Fields Unit) (s : State) : Result :=
  request p tag 35 (.holdHump p tag f)
    (judge p 35 f (answered (fun _ => State.masterHold 35 p [.raise .operator]))) s

/-- HOLD NOW (R175), in a REQUEST frame (R185) or an URGENT frame (R186). -/
def execHoldNow (p : Port) (tag : Nat) (urgent : Bool) (f : Fields Unit) (s : State) : Result :=
  if urgent then
    urgentRequest p tag 11 (.holdNow p tag urgent f)
      (judgeUrgent p 11 f (answered (fun _ => State.masterHold 11 p [.addUrgent p]))) s
  else
    request p tag 11 (.holdNow p tag urgent f)
      (judge p 11 f (answered (fun _ => State.masterHold 11 p [.addUrgent p]))) s

/-- RELEASE HUMP (R176). -/
def execReleaseHump (p : Port) (tag : Nat) (f : Fields Unit) (s : State) : Result :=
  request p tag 10 (.releaseHump p tag f)
    (judge p 10 f (answered (fun _ => State.masterHold 10 p (State.releaseOps p)))) s

def execAckTracking (p : Port) (tag : Nat) (f : Fields Unit) (s : State) : Result :=
  request p tag 46 (.ackTracking p tag f) (judge p 46 f (answered (fun _ => State.ackTracking p))) s

/-- ACK INTRUSION (R178). -/
def execAckIntrusion (p : Port) (tag : Nat) (f : Fields Unit) (s : State) : Result :=
  request p tag 47 (.ackIntrusion p tag f)
    (judge p 47 f (answered (fun _ => State.masterHold 47 p [.clear .intrusion]))) s

end Sys2Proof.Machine
end

