-- ==== Sys2Proof/Machine/Frames.lean ====
section
/-! DEFINITION. Frames.lean: frames on the line: the check word and the receiver (R181, R182). -/

namespace Sys2Proof.Machine

/-! ### The check word (R181) -/

/-- One bit of the CRC with polynomial x^16 + x^12 + x^5 + 1. -/
def crcShift (c : BitVec 16) : BitVec 16 :=
  if c.msb then (c <<< 1) ^^^ 0x1021#16 else c <<< 1

/-- One byte, most significant bit first. -/
def crcByte (c : BitVec 16) (b : Byte) : BitVec 16 :=
  let c := c ^^^ (b.setWidth 16 <<< 8)
  crcShift (crcShift (crcShift (crcShift (crcShift (crcShift (crcShift (crcShift c)))))))

/-- CRC-16 with initial value 0xFFFF and no final inversion. -/
def crc16 (bs : List Byte) : BitVec 16 := bs.foldl crcByte 0xFFFF#16

/-- A value in two bytes, most significant first. -/
def word2 (n : Nat) : List Byte := [BitVec.ofNat 8 (n / 256), BitVec.ofNat 8 n]

/-- A frame's bytes (R181). -/
def frameBytes (kind tag code : Nat) (payload : List Byte) : List Byte :=
  let body := word2 payload.length ++ [BitVec.ofNat 8 kind, BitVec.ofNat 8 tag, BitVec.ofNat 8 code] ++ payload
  0xC3#8 :: body ++ word2 (crc16 body).toNat

/-! ### Gathered bytes -/

/-- The length field of gathered bytes, once both its bytes have arrived. -/
def frameLength : List Byte → Option Nat
  | _ :: h :: l :: _ => some (256 * h.toNat + l.toNat)
  | _ => none

/-- How many bytes the frame has, once its length is known. -/
def frameSize (bs : List Byte) : Option Nat := (frameLength bs).map (fun n => n + 8)

/-- Hunt for a frame in a run of bytes: those of the frame in hand, and those that follow a whole one. A frame whose length
is above 1024 is discarded, and hunting resumes at the byte after its start byte (R182). The fuel is the number of bytes. -/
def scan : Nat → List Byte → List Byte × List Byte
  | 0, _ => ([], [])
  | fuel + 1, bs =>
    let f := bs.dropWhile (fun b => b != 0xC3#8)
    match frameLength f with
    | none => (f, [])
    | some n =>
      if Config.payloadLimit < n then scan fuel f.tail
      else (f.take (n + 8), f.drop (n + 8))

/-- A receiver hunting over bytes that have arrived. -/
def Receiver.hunt (r : Receiver) (bs : List Byte) : Receiver :=
  let f := scan (bs.length + 1) bs
  { r with buf := f.1, backlog := f.2 }

/-- The frame in hand is whole. -/
def Receiver.isWhole (r : Receiver) : Bool := frameSize r.buf = some r.buf.length

/-- A whole frame's fields: kind, tag, code, payload; the check word agrees. -/
structure WholeFrame where
  kind : Nat
  tag : Nat
  code : Nat
  payload : List Byte
  good : Bool
  deriving DecidableEq, Repr

/-- The whole frame in hand. -/
def Receiver.frame (r : Receiver) : Option WholeFrame :=
  if r.isWhole then
    match r.buf with
    | _ :: _ :: _ :: k :: t :: c :: rest =>
      let n := rest.length - 2
      some ⟨k.toNat, t.toNat, c.toNat, rest.take n,
        decide (rest.drop n = word2 (crc16 ((r.buf.take (n + 6)).drop 1)).toNat)⟩
    | _ => none
  else none

/-- A byte arrives. One that comes more than 5 ms after the last byte of an incomplete frame finds that frame discarded. -/
def Receiver.feed (r : Receiver) (clock : Nat) (b : Byte) : Receiver :=
  let late : Bool := !r.isWhole && decide (Config.interByteMs * Config.ticksPerMs < clock - r.lastByte)
  let before := if late then [] else r.buf ++ r.backlog
  { r.hunt (before ++ [b]) with lastByte := clock }

/-- The frame in hand is done with, or is of a kind that is not taken: hunting resumes at the next byte (R182). -/
def Receiver.finished (r : Receiver) : Receiver := r.hunt r.backlog

/-- The frame in hand fails its check word: hunting resumes at the byte after the start byte (R182). -/
def Receiver.discard (r : Receiver) : Receiver := r.hunt (r.buf.tail ++ r.backlog)

/-- The bytes of the whole frames with a good check word that a receiver finds in a run, without what stands before, between and
after them: hunting goes on behind a good frame, and at the byte after the start byte of a bad one (R182). The fuel is more than
the number of bytes. -/
def wholeFrames : Nat → List Byte → List Byte
  | 0, _ => []
  | fuel + 1, bs =>
    let r := Receiver.hunting.hunt bs
    match r.frame with
    | none => []
    | some f => if f.good then r.buf ++ wholeFrames fuel r.backlog else wholeFrames fuel (r.buf.tail ++ r.backlog)

/-- A framing error or a break: the incomplete frame is discarded, and hunting resumes at the next byte (R182). Where a whole
frame is still to be taken, it and the whole frames behind it stay (log entry 33). -/
def Receiver.dropIncomplete (r : Receiver) : Receiver :=
  if r.isWhole then r.hunt (wholeFrames ((r.buf ++ r.backlog).length + 1) (r.buf ++ r.backlog)) else Receiver.hunting

/-- More than 5 ms have passed since the last byte of an incomplete frame (R182). -/
def Receiver.pauseDue (r : Receiver) (clock : Nat) : Bool :=
  !r.buf.isEmpty && !r.isWhole && decide (Config.interByteMs * Config.ticksPerMs < clock - r.lastByte)

end Sys2Proof.Machine
end

