-- ==== Sys2Proof/Machine/Operands.lean ====
section
/-! DEFINITION. Operands.lean: the payload encodings of R181 read back: every operand form of every request, and the request
a frame's code and payload stand for (R183, R185, R186). -/

namespace Sys2Proof.Machine

/-- What is left of a payload, and the offset it begins at. -/
structure Cursor where
  pos : Nat
  rest : List Byte
  deriving DecidableEq, Repr

/-- A reader of one field: the value and what follows it, or the offset of the first byte that does not fit (R185). -/
abbrev Reader (α : Type) := Cursor → Except Nat (α × Cursor)

namespace Reader

def value {α : Type} (a : α) : Reader α := fun c => .ok (a, c)

def andThen {α β : Type} (r : Reader α) (f : α → Reader β) : Reader β := fun c =>
  match r c with
  | .ok (a, c') => f a c'
  | .error k => .error k

def map {α β : Type} (f : α → β) (r : Reader α) : Reader β := r.andThen (fun a => value (f a))

/-- One byte; a payload that ends too soon misfits at its length (log entry 11). -/
def byte : Reader Nat := fun c =>
  match c.rest with
  | [] => .error c.pos
  | b :: bs => .ok (b.toNat, ⟨c.pos + 1, bs⟩)

/-- A speed, length, count or duration: two bytes, most significant first. -/
def word : Reader Nat := byte.andThen (fun h => byte.map (fun l => 256 * h + l))

/-- A byte that a test admits, else its own offset (R185). -/
def check (ok : Nat → Bool) : Reader Nat := fun c =>
  match byte c with
  | .ok (b, c') => if ok b then .ok (b, c') else .error c.pos
  | .error k => .error k

/-- An optional field: a presence byte of 0 or 1, and the value when present. -/
def optional {α : Type} (r : Reader α) : Reader (Option α) :=
  (check (fun b => b ≤ 1)).andThen (fun b => if b = 0 then value none else r.map some)

/-- Characters of a tag, each 32 to 126. -/
def chars : Nat → Reader (List Nat)
  | 0 => value []
  | n + 1 => (check (fun b => 32 ≤ b && b ≤ 126)).andThen (fun b => (chars n).map (fun bs => b :: bs))

/-- The tag of a cut: its length, then its characters. A length above 12 is judged by ENTER CUT (R65). -/
def tag : Reader (List Nat) := byte.andThen chars

/-- A cut: roll number in two bytes, fragment in one. -/
def cut : Reader CutId := word.andThen (fun r => byte.map (fun f => ⟨r, f⟩))

/-- The parent of a point: 0 for CREST, else the point (log entry 10). -/
def parent : Reader Parent := byte.map (fun b => if b = 0 then .crest else .point b)

/-- An outlet's target: 0 for a point or 1 for a track, then its number (log entry 10). -/
def target : Reader Target :=
  (check (fun b => b ≤ 1)).andThen (fun b => byte.map (fun n => if b = 0 then .point n else .track n))

/-- Point or sensor, in ACK FAULT. -/
def ackTarget : Reader AckTarget :=
  (check (fun b => b ≤ 1)).andThen (fun b => byte.map (fun n => if b = 0 then .point n else .sensor n))

def pointItem : Reader PointItem :=
  byte.andThen fun num => parent.andThen fun parent => target.andThen fun n => target.andThen fun r =>
  word.andThen fun toe => word.andThen fun lenN => word.andThen fun lenR => (optional word).andThen fun allowance =>
  (optional word).map fun timeout => ⟨num, parent, n, r, toe, lenN, lenR, allowance, timeout⟩

/-- The track item (R5). Each notify flag is read as an optional byte (log entry 49). -/
def trackItem : Reader TrackItem :=
  byte.andThen fun num => word.andThen fun capacity => (optional byte).andThen fun alternate =>
  byte.andThen fun holder => (optional byte).andThen fun copy => (optional byte).map fun pass =>
    ⟨num, capacity, alternate, holder, copy, pass⟩

def sensorItem : Reader SensorItem :=
  byte.andThen fun input => byte.andThen fun filter => word.map fun spacing => ⟨input, filter, spacing⟩

/-- The yard item (R6). The early factor, a percentage, is read in two bytes (log entry 42). -/
def yardItem : Reader YardItem :=
  (optional word).andThen fun early => (optional word).andThen fun separation => (optional word).andThen fun standing =>
  (optional word).andThen fun disturbance => (optional word).map fun dwell =>
    ⟨early, separation, standing, disturbance, dwell⟩

def enterArgs : Reader EnterArgs :=
  word.andThen fun roll => word.andThen fun axles => byte.andThen fun track => byte.andThen fun cls =>
  (optional tag).map fun t => ⟨roll, axles, track, cls, t⟩

def amendArgs : Reader AmendArgs := word.andThen fun roll => byte.map fun track => ⟨roll, track⟩
def blockArgs : Reader BlockArgs := byte.andThen fun point => byte.map fun pos => ⟨point, pos⟩
def timingArgs : Reader TimingArgs :=
  byte.andThen fun point => word.andThen fun allowance => word.map fun timeout => ⟨point, allowance, timeout⟩
def rerouteArgs : Reader RerouteArgs := cut.andThen fun c => byte.map fun track => ⟨c, track⟩
def speedArgs : Reader SpeedArgs :=
  cut.andThen fun c => byte.andThen fun point => word.map fun speed => ⟨c, point, speed⟩
def trackValueArgs : Reader TrackValueArgs := byte.andThen fun track => word.map fun v => ⟨track, v⟩
/-- SET ALTERNATE (R157). The alternate is an optional field, absent for NONE (log entry 42). -/
def alternateArgs : Reader AlternateArgs := byte.andThen fun track => (optional byte).map fun a => ⟨track, a⟩
/-- COPY GRANT (R162). A slot number is one byte, here as in PASS GRANT, TAKE GRANT and DROP GRANT (log entry 41). -/
def copyArgs : Reader CopyArgs :=
  byte.andThen fun slot => byte.andThen fun t => byte.map fun rights => ⟨slot, t, rights⟩
/-- PASS GRANT (R163), its slot one byte (log entry 41). -/
def passArgs : Reader PassArgs := byte.andThen fun slot => byte.map fun t => ⟨slot, t⟩

/-- A whole payload: the fields, with no byte left over (R185 case 3). -/
def whole {α : Type} (r : Reader α) (payload : List Byte) : Fields α :=
  match r ⟨0, payload⟩ with
  | .error k => .misfit k
  | .ok (a, c) => if c.rest.isEmpty then .fits a else .misfit c.pos

/-- A payload that carries no fields. -/
def nothing (payload : List Byte) : Fields Unit := whole (value ()) payload

end Reader

/-- The request a REQUEST frame stands for (R183, R185). TAKE GRANT and DROP GRANT carry a slot number of one byte (log entry 41), a
roll number that stands alone is two bytes, as in a cut. -/
def decodeRequest (p : Port) (tag code : Nat) (d : List Byte) : Instr :=
  match code with
  | 1 => .readList p tag (Reader.word.whole d)
  | 2 => .readCut p tag (Reader.cut.whole d)
  | 3 => .readPoint p tag (Reader.byte.whole d)
  | 4 => .readTrack p tag (Reader.byte.whole d)
  | 5 => .readSection p tag (Reader.byte.whole d)
  | 6 => .readPort p tag (Reader.nothing d)
  | 7 => .readGrants p tag (Reader.nothing d)
  | 8 => .setMask p tag (Reader.byte.whole d)
  | 9 => .portReset p tag (Reader.nothing d)
  | 10 => .releaseHump p tag (Reader.nothing d)
  | 11 => .holdNow p tag false (Reader.nothing d)
  | 16 => .enterCut p tag (Reader.enterArgs.whole d)
  | 17 => .amendCut p tag (Reader.amendArgs.whole d)
  | 18 => .withdrawCut p tag (Reader.word.whole d)
  | 24 => .layoutBegin p tag (Reader.nothing d)
  | 25 => .layoutPoint p tag (Reader.pointItem.whole d)
  | 26 => .layoutTrack p tag (Reader.trackItem.whole d)
  | 27 => .layoutSensor p tag (Reader.sensorItem.whole d)
  | 28 => .layoutYard p tag (Reader.yardItem.whole d)
  | 29 => .layoutCommit p tag (Reader.nothing d)
  | 30 => .layoutAbandon p tag (Reader.nothing d)
  | 32 => .startHumping p tag (Reader.nothing d)
  | 33 => .stopHumping p tag (Reader.nothing d)
  | 34 => .yardClear p tag (Reader.nothing d)
  | 35 => .holdHump p tag (Reader.nothing d)
  | 36 => .acceptNext p tag (Reader.word.whole d)
  | 40 => .blockPoint p tag (Reader.blockArgs.whole d)
  | 41 => .restorePoint p tag (Reader.byte.whole d)
  | 42 => .freezePoints p tag false (Reader.nothing d)
  | 43 => .unfreeze p tag (Reader.nothing d)
  | 44 => .setPointTiming p tag (Reader.timingArgs.whole d)
  | 45 => .ackFault p tag (Reader.ackTarget.whole d)
  | 46 => .ackTracking p tag (Reader.nothing d)
  | 47 => .ackIntrusion p tag (Reader.nothing d)
  | 48 => .clearSection p tag (Reader.byte.whole d)
  | 49 => .rerouteCut p tag (Reader.rerouteArgs.whole d)
  | 50 => .recallGrant p tag (Reader.byte.whole d)
  | 56 => .speedReport p tag (Reader.speedArgs.whole d)
  | 64 => .closeTrack p tag (Reader.byte.whole d)
  | 65 => .openTrack p tag (Reader.byte.whole d)
  | 66 => .pullRecord p tag (Reader.trackValueArgs.whole d)
  | 67 => .setCapacity p tag (Reader.trackValueArgs.whole d)
  | 68 => .setAlternate p tag (Reader.alternateArgs.whole d)
  | 72 => .copyGrant p tag (Reader.copyArgs.whole d)
  | 73 => .passGrant p tag (Reader.passArgs.whole d)
  | 74 => .takeGrant p tag (Reader.byte.whole d)
  | 75 => .refuseGrant p tag (Reader.nothing d)
  | 76 => .dropGrant p tag (Reader.byte.whole d)
  | _ => .unknownRequest p tag code false

/-- The request an URGENT frame stands for (R186). -/
def decodeUrgent (p : Port) (tag code : Nat) (d : List Byte) : Instr :=
  match code with
  | 11 => .holdNow p tag true (Reader.nothing d)
  | 42 => .freezePoints p tag true (Reader.nothing d)
  | _ => .unknownRequest p tag code true

end Sys2Proof.Machine
end

