-- ==== Sys2Proof/Machine/Ports.lean ====
section
/-! DEFINITION. Ports.lean: the Port Controllers: their own requests, frames, bytes, breaks, notices and the line
(chapter 10). -/

namespace Sys2Proof.Machine

/-! ### Notice classes and masks (R188, R191) -/

/-- The seven classes, in the order of their bits (R181). -/
inductive NoticeClass where
  | route | passage | point | track | hold | grant | fault
  deriving DecidableEq, Repr

/-- The class and code of a notice; OVERRUN has no class (R188). -/
def NoticeBody.classCode : NoticeBody → Option NoticeClass × Nat
  | .cutStaged .. => (some .route, 128)
  | .cutReleased .. => (some .route, 129)
  | .cutMerged .. => (some .route, 130)
  | .cutFragment .. => (some .route, 131)
  | .cutDiverted .. => (some .route, 132)
  | .cutStalled .. => (some .route, 133)
  | .cutMoving .. => (some .route, 134)
  | .cutArrived .. => (some .route, 135)
  | .cutPassage .. => (some .passage, 136)
  | .pointState .. => (some .point, 144)
  | .trackState .. => (some .track, 152)
  | .holdState .. => (some .hold, 160)
  | .mode .. => (some .hold, 161)
  | .grantOffer .. => (some .grant, 168)
  | .grantNote .. => (some .grant, 169)
  | .sensorState .. => (some .fault, 176)
  | .trackingFault .. => (some .fault, 177)
  | .overrun .. => (none, 255)

def ClassMask.admits (m : ClassMask) : Option NoticeClass → Bool
  | none => true
  | some .route => m.route
  | some .passage => m.passage
  | some .point => m.point
  | some .track => m.track
  | some .hold => m.hold
  | some .grant => m.grant
  | some .fault => m.fault

/-- A mask from its byte; bit 7 is 0 (R181, R191). -/
def maskOfByte (b : Nat) : ClassMask :=
  ⟨b.testBit 0, b.testBit 1, b.testBit 2, b.testBit 3, b.testBit 4, b.testBit 5, b.testBit 6⟩

/-! ### Port state -/

/-- A notice given to the port: queued when the mask admits its class and there is room, else discarded and counted (R189). The
mask is that of the moment the port takes it (R191; log entry 56). -/
def PortState.takeNotice (q : PortState) (n : Notice) : PortState :=
  if !q.mask.admits n.body.classCode.1 then q
  else if q.notices.length < Config.noticeQueueSize then { q with notices := q.notices ++ [n] }
  else { q with overrun := true, discards := min (q.discards + 1) Config.discardLimit }

/-- The port takes the oldest notice given to it (R189). -/
def PortState.takeGiven (q : PortState) : PortState :=
  match q.given with
  | [] => q
  | n :: rest => ({ q with given := rest }).takeNotice n

/-- What a reset does to slots, queues, marker and mask (R192). -/
def PortState.reset (p : Port) (q : PortState) : PortState :=
  { q with waiting := none, urgent := none, answers := [], notices := [], overrun := false, discards := 0,
           mask := Port.defaultMask p }

/-- A working request that a reset finds is still taken and completed, and its answer is discarded (R192). -/
def PortState.discardWorking (q : PortState) : PortState :=
  { q with working := q.working.map (fun w => { w with discard := true }) }

namespace State

/-- A port reset abandons an OPEN load of the port (R10, R192). -/
def abandonOwn (s : State) (p : Port) : State :=
  match s.load with
  | .opened owner _ => if owner = p then { s with load := .absent } else s
  | _ => s

/-- SET MASK (R191). -/
def setMask (p : Port) (b : Nat) (s : State) : State × Reply :=
  if 128 ≤ b then (s, Reply.plain .badValue)
  else
    (s.modPort p (fun q => { q with mask := maskOfByte b }),
     Reply.doneWith (.masks (s.ports.get p).mask (maskOfByte b)))

/-- PORT RESET (R193). -/
def portReset (p : Port) (s : State) : State × Reply :=
  ((s.modPort p (PortState.reset p)).abandonOwn p, Reply.done)

def loadState (s : State) : LoadState × Option Port :=
  match s.load with
  | .absent => (.none, none)
  | .opened p _ => (.opened, some p)
  | .writing p _ _ => (.writing, some p)

/-- READ PORT (R194). -/
def readPort (p : Port) (s : State) : Reply :=
  let q := s.ports.get p
  Reply.doneWith (.port p q.working.isSome q.waiting.isSome q.urgent.isSome q.answers.length q.notices.length q.overrun
    q.discards q.mask (s.custody.get p).inbound.length s.mode s.loadState.1 s.loadState.2 s.holds s.relay s.now)

/-- A whole REQUEST frame (R184); a payload no frame can carry is discarded (R182). -/
def requestFrame (p : Port) (tag code : Nat) (payload : List Byte) (s : State) : State :=
  s.modPort p (fun q =>
    let q := { q with rx := q.rx.finished }
    if Config.payloadLimit < payload.length then q else q.place (decodeRequest p tag code payload) tag code)

/-- A whole URGENT frame (R186). -/
def urgentFrame (p : Port) (tag code : Nat) (payload : List Byte) (s : State) : State :=
  s.modPort p (fun q =>
    let q := { q with rx := q.rx.finished }
    if Config.payloadLimit < payload.length then q else q.placeUrgent (decodeUrgent p tag code payload) tag code)

/-- A whole frame that fails its check word, or is of no kind that is taken (R182). -/
def discardFrame (p : Port) (s : State) : State :=
  s.modPort p (fun q =>
    match q.rx.frame with
    | some f =>
      if !f.good then { q with rx := q.rx.discard }
      else if f.kind = 1 ∨ f.kind = 2 then q
      else { q with rx := q.rx.finished }
    | none => q)

/-- A pause inside a frame (R182). -/
def pauseFrame (p : Port) (s : State) : State :=
  s.modPort p (fun q => if q.rx.pauseDue s.clock then { q with rx := Receiver.hunting } else q)

def breakStart (p : Port) (s : State) : State := s.modPort p (fun q => { q with rx := q.rx.dropIncomplete })

/-- A break has lasted 10 ms (R192). The receiver is left HUNTING with nothing in hand: a whole frame that still stood in it is lost
(log entry 55). -/
def breakReset (p : Port) (s : State) : State :=
  (s.modPort p (fun q => { ((q.reset p).discardWorking) with rx := Receiver.hunting })).abandonOwn p

end State

def execReadPort (p : Port) (tag : Nat) (f : Fields Unit) (s : State) : Result :=
  request p tag 6 (.readPort p tag f) (judge p 6 f (reading (fun _ => State.readPort p))) s

def execSetMask (p : Port) (tag : Nat) (f : Fields Nat) (s : State) : Result :=
  request p tag 8 (.setMask p tag f) (judge p 8 f (answered (State.setMask p))) s

def execPortReset (p : Port) (tag : Nat) (f : Fields Unit) (s : State) : Result :=
  request p tag 9 (.portReset p tag f) (judge p 9 f (answered (fun _ => State.portReset p))) s

/-- UNKNOWN_REQUEST: DENIED (R185 case 1, R186 case 1). -/
def execUnknownRequest (p : Port) (tag : Nat) (code : Nat) (urgent : Bool) (s : State) : Result :=
  let work : State → State × Option Reply := fun s => (s, some (Reply.plain .denied))
  if urgent then urgentRequest p tag code (.unknownRequest p tag code urgent) work s
  else request p tag code (.unknownRequest p tag code urgent) work s

def execRequestFrameReceived (p : Port) (tag : Nat) (code : Nat) (payload : List Byte) (s : State) : Result :=
  event (State.requestFrame p tag code payload) s

def execUrgentFrameReceived (p : Port) (tag : Nat) (code : Nat) (payload : List Byte) (s : State) : Result :=
  event (State.urgentFrame p tag code payload) s

/-- FRAME_DISCARDED (R182): taken when such a frame is in hand (log entry 3). -/
def execFrameDiscarded (p : Port) (s : State) : Result := event (State.discardFrame p) s

/-- INTER_BYTE_TIMEOUT (R182): taken when the pause has lasted (log entry 3). -/
def execInterByteTimeout (p : Port) (s : State) : Result := event (State.pauseFrame p) s

/-- LINE_BREAK_START (R182). -/
def execLineBreakStart (p : Port) (s : State) : Result := event (State.breakStart p) s

/-- LINE_BREAK_RESET (R192). -/
def execLineBreakReset (p : Port) (s : State) : Result := event (State.breakReset p) s

/-- FRAME_SENT (R187): the frame on the line has been sent; the next one starts (log entry 18). -/
def execFrameSent (p : Port) (s : State) : Result :=
  event (fun s => s.modPort p (fun q => { q with line := none })) s

/-- NOTICE_GIVEN (R189). -/
def execNoticeGiven (p : Port) (s : State) : Result := event (fun s => s.modPort p PortState.takeGiven) s

/-- BYTE_RECEIVED (R182). -/
def execByteReceived (p : Port) (b : Byte) (s : State) : Result :=
  event (fun s => s.modPort p (fun q => { q with rx := q.rx.feed s.clock b })) s

end Sys2Proof.Machine
end

