-- ==== Sys2Proof/Machine/Points.lean ====
section
/-! DEFINITION. Points.lean: Point Control's requests, its evaluations, its detection inputs and its timeouts (chapter 7);
ACK FAULT for a sensor too (R37). -/

namespace Sys2Proof.Machine

/-- The position a code names (R181). -/
def posOfCode : Nat → Option Pos
  | 0 => some .n
  | 1 => some .r
  | _ => none

/-- The block is served: LOCKED in the blocked position, or THROWING toward it (R141). -/
def PointState.serves (b : Pos) : PointState → Bool
  | .locked p => p == b
  | .throwing t _ => t == b
  | .fault _ => false

namespace State

/-- READ POINT (R146). -/
def readPoint (n : Nat) (s : State) : Reply :=
  match s.point? n with
  | none => Reply.plain .noSuch
  | some r =>
    Reply.doneWith (.pointRec r (s.layout.point? n) r.lie r.pair r.effective s.freeze (s.headOf n) (s.sectionEmpty n)
      (s.sectionProven n))

/-- A LOCKED or FAULT point is evaluated at once within a request; a THROWING one is left (R141, R142). -/
def evaluateNow (s : State) (n : Nat) : State :=
  match s.point? n with
  | some r =>
    match r.state with
    | .throwing _ _ => s
    | _ => s.evaluate n false
  | none => s

/-- The blocked field of a point takes a value; a change brings a notice (R141, R142). -/
def setBlocked (s : State) (r : PointRec) (b : Option Pos) (e : PointEvent) : State :=
  if r.blocked = b then s else (s.modPoint r.num (fun r => { r with blocked := b })).pointNotice r.num e

/-- BLOCK POINT (R141). -/
def blockPoint (a : BlockArgs) (s : State) : State × Reply :=
  match s.point? a.point, posOfCode a.position with
  | none, _ => (s, Reply.plain .noSuch)
  | some _, none => (s, Reply.plain .badValue)
  | some r, some b =>
    let s := (s.setBlocked r (some b) .blocked).evaluateNow a.point
    match s.point? a.point with
    | some r' => (s, Reply.doneWith (.blocked r'.state r'.lie (r'.state.serves b)))
    | none => (s, Reply.done)

/-- RESTORE POINT (R142). -/
def restorePoint (n : Nat) (s : State) : State × Reply :=
  match s.point? n with
  | none => (s, Reply.plain .noSuch)
  | some r =>
    let s := (s.setBlocked r none .restored).evaluateNow n
    match s.point? n with
    | some r' => (s, Reply.doneWith (.restored r'.state r'.lie))
    | none => (s, Reply.done)

/-- FREEZE POINTS (R143). -/
def freezePoints (s : State) : State × Reply :=
  (if s.freeze then s else ({ s with freeze := true }).give (.pointState none .freeze none), Reply.done)

/-- UNFREEZE (R144): each point is evaluated in an evaluation of its own, in ascending point number (log entry 61). -/
def unfreeze (s : State) : State × Reply :=
  (if s.freeze then
    let s := ({ s with freeze := false }).give (.pointState none .unfreeze none)
    { s with evalDue := s.evalDue ++ s.points.map (fun r => ⟨r.num, false⟩) }
   else s, Reply.done)

/-- SET POINT TIMING (R145). -/
def setPointTiming (a : TimingArgs) (s : State) : State × Reply :=
  match s.point? a.point with
  | none => (s, Reply.plain .noSuch)
  | some _ =>
    if a.allowance < 200 ∨ 4000 < a.allowance ∨ a.timeout < 300 ∨ 5000 < a.timeout then (s, Reply.plain .badValue)
    else
      let s := (s.modPoint a.point (fun r => { r with pendingTiming := some ⟨a.allowance, a.timeout⟩ })).takeTiming
        a.point
      (s, Reply.doneWith (.timing ((s.point? a.point).all (fun r => r.pendingTiming.isNone))))

/-- A run-in mark is cleared, and RUN-IN with it when no other mark is set (R139). -/
def clearMark (s : State) (r : PointRec) : State :=
  if r.runIn then
    let s := s.modPoint r.num (fun r => { r with runIn := false })
    if s.anyRunIn then s else s.clear .pointControl .runIn
  else s

/-- ACK FAULT of a point in FAULT (R140). -/
def ackFaulted (s : State) (r : PointRec) : State × Reply :=
  let s := s.clearMark r
  match r.pair with
  | .alone p =>
    let s := (s.modPoint r.num (fun r => { r.drivesOff with state := .locked p })).pointNotice r.num (.acknowledged r.pair)
    (((s.takeTiming r.num).clearPointFault).evaluateLater r.num false, Reply.doneWith (.position p))
  | _ =>
    let s := if r.runIn then s.pointNotice r.num (.acknowledged r.pair) else s
    (s.evaluateLater r.num false, ⟨.conflict, .pair r.pair⟩)

/-- ACK FAULT naming a point (R140). LOCKED and THROWING change nothing; R125 has the point evaluated in each case. -/
def ackPoint (n : Nat) (s : State) : State × Reply :=
  match s.point? n with
  | none => (s, Reply.plain .noSuch)
  | some r =>
    match r.state with
    | .locked _ => (s.evaluateLater n false, Reply.doneWith (.pointState r.state))
    | .throwing _ _ => (s.evaluateLater n false, ⟨.conflict, .pointState r.state⟩)
    | .fault _ => s.ackFaulted r

/-- ACK FAULT naming a sensor (R37). -/
def ackSensor (input : Nat) (s : State) : State × Reply :=
  match (sensorOfInput input).bind s.sensor? with
  | none => (s, Reply.plain .noSuch)
  | some r =>
    let now : Condition :=
      if r.condition = .disturbed then (if r.expiredOn then .standing else .normal) else r.condition
    ((s.modSensor r.sensor (fun r => { r with disturb := 0 })).setCondition r.sensor r.condition now, Reply.done)

/-- ACK FAULT (R37, R140). -/
def ackFault (a : AckTarget) (s : State) : State × Reply :=
  match a with
  | .point n => s.ackPoint n
  | .sensor i => s.ackSensor i

/-- The first evaluation due for a point is taken (R125). -/
def takeEvaluation (n : Nat) (s : State) : State :=
  match s.evalDue.find? (fun e => e.point == n) with
  | some e => ({ s with evalDue := dropFirst e s.evalDue }).evaluate n e.afterThrow
  | none => s

/-! ### Detection inputs (R124) -/

def detTicks : Nat := Config.detectionMs * Config.ticksPerMs

/-- When the next detection event of a point is dated, if one is due: the earlier of its two inputs. -/
def detectionDue (now : Nat) (r : PointRec) : Option Nat :=
  match qualified now detTicks r.detN.owed, qualified now detTicks r.detR.owed with
  | some x, some y => some (min x y)
  | some x, none => some x
  | none, y => y

/-- An input takes its oldest waiting change if that change qualified at the moment given. -/
def takeInput (now at' : Nat) (i : DetInput) : DetInput :=
  match i.owed with
  | e :: es => if qualified now detTicks i.owed = some at' then ⟨e.level, es⟩ else i
  | [] => i

/-- The next detection event of a point; inputs that qualify at the same moment make one event (R124). -/
def takeDetection (n : Nat) (s : State) : State :=
  match (s.point? n).bind (fun r => detectionDue s.clock r) with
  | none => s
  | some t =>
    (s.modPoint n (fun r => { r with detN := takeInput s.clock t r.detN, detR := takeInput s.clock t r.detR })).detectionEvent
      n (yardOf t)

/-- A throw that has run for the active timeout without ending (R132). -/
def timeoutDue (now : YardTime) (r : PointRec) : Bool :=
  match r.state with
  | .throwing _ start => decide (r.timing.timeout ≤ YardTime.since now start)
  | _ => false

/-- THROW TIMEOUT (R132). -/
def takeTimeout (n : Nat) (s : State) : State :=
  match s.point? n with
  | some r => if timeoutDue s.now r then s.endThrowFault r .throwTimeout .timeout else s
  | none => s

end State

/-- A raw level in a list of the inputs that are on. -/
def setPin {α : Type} [DecidableEq α] (a : α) (level : Bool) (l : List α) : List α :=
  if level then (if a ∈ l then l else l ++ [a]) else l.filter (fun x => x ≠ a)

namespace State

/-- The raw edge at a detection input whose point has a record (R124). -/
def detectionEdge (s : State) (n : Nat) (o : Pos) (level : Bool) : State :=
  s.modPoint n (fun r =>
    match o with
    | .n => { r with detN := { r.detN with owed := rawEdge s.clock detTicks level r.detN.owed } }
    | .r => { r with detR := { r.detR with owed := rawEdge s.clock detTicks level r.detR.owed } })

end State

def execReadPoint (p : Port) (tag : Nat) (f : Fields Nat) (s : State) : Result :=
  request p tag 3 (.readPoint p tag f) (judge p 3 f (reading State.readPoint)) s

def execBlockPoint (p : Port) (tag : Nat) (f : Fields BlockArgs) (s : State) : Result :=
  request p tag 40 (.blockPoint p tag f) (judge p 40 f (answered State.blockPoint)) s

def execRestorePoint (p : Port) (tag : Nat) (f : Fields Nat) (s : State) : Result :=
  request p tag 41 (.restorePoint p tag f) (judge p 41 f (answered State.restorePoint)) s

/-- FREEZE POINTS (R143), in a REQUEST frame (R185) or an URGENT frame (R186). -/
def execFreezePoints (p : Port) (tag : Nat) (urgent : Bool) (f : Fields Unit) (s : State) : Result :=
  if urgent then
    urgentRequest p tag 42 (.freezePoints p tag urgent f)
      (judgeUrgent p 42 f (answered (fun _ => State.freezePoints))) s
  else request p tag 42 (.freezePoints p tag urgent f) (judge p 42 f (answered (fun _ => State.freezePoints))) s

def execUnfreeze (p : Port) (tag : Nat) (f : Fields Unit) (s : State) : Result :=
  request p tag 43 (.unfreeze p tag f) (judge p 43 f (answered (fun _ => State.unfreeze))) s

def execSetPointTiming (p : Port) (tag : Nat) (f : Fields TimingArgs) (s : State) : Result :=
  request p tag 44 (.setPointTiming p tag f) (judge p 44 f (answered State.setPointTiming)) s

def execAckFault (p : Port) (tag : Nat) (f : Fields AckTarget) (s : State) : Result :=
  request p tag 45 (.ackFault p tag f) (judge p 45 f (answered State.ackFault)) s

/-- POINT_EVALUATION (R125): taken when it is due (log entry 3). -/
def execPointEvaluation (point : Nat) (s : State) : Result := event (State.takeEvaluation point) s

/-- DETECTION_INPUT_EDGE (R124): the pin changes whatever the supply; an input of a point with no record is not read. -/
def execDetectionInputEdge (channel : Nat) (which : Pos) (level : Bool) (s : State) : Result :=
  if s.detPins.contains (channel, which) = level then .next s
  else
    event (fun s => s.detectionEdge channel which level)
      { s with detPins := setPin (channel, which) level s.detPins }

/-- DETECTION_EVENT (R124): taken when a change has qualified (log entry 3). -/
def execDetectionEvent (point : Nat) (s : State) : Result := event (State.takeDetection point) s

/-- THROW_TIMEOUT (R132): taken when the timeout has run (log entry 3). -/
def execThrowTimeout (point : Nat) (s : State) : Result := event (State.takeTimeout point) s

end Sys2Proof.Machine
end

