-- ==== Sys2Proof/Machine/Sensors.lean ====
section
/-! DEFINITION. Sensors.lean: the events of the Sensor Front End: raw edges, filtered edges, standing timers (chapter 2). -/

namespace Sys2Proof.Machine

namespace State

/-- The raw edge at a head whose sensor has a record (R25). -/
def headEdge (s : State) (x : Sensor) (h : Head) (level : Bool) : State :=
  s.modSensor x (fun r =>
    let k := r.head h
    r.setHead h { k with owed := rawEdge s.clock r.filter level k.owed })

/-- The filtered edge of a head is taken when it is the next one due at its sensor (R27), of the raw edges that have come (log entry
58). -/
def takeFiltered (x : Sensor) (h : Head) (s : State) : State :=
  match s.sensor? x with
  | none => s
  | some r =>
    match r.nextEdge s.clock, (r.head h).owed with
    | some (k, t), e :: _ => if k = h then s.takeEdge r h e t else s
    | _, _ => s

/-- A standing timer has run for longer than the limit (R32). -/
def standingDue (s : State) (r : SensorRec) (h : Head) : Bool :=
  match (r.head h).timer with
  | .running since => decide (s.layout.standingTicks < s.clock - since)
  | _ => false

/-- STANDING TIMER EXPIRY (R32). -/
def takeStanding (x : Sensor) (h : Head) (s : State) : State :=
  match s.sensor? x with
  | none => s
  | some r =>
    if s.standingDue r h then
      (s.modSensor x (fun r => let k := r.head h
        r.setHead h { k with timer := .expired })).setCondition x r.condition
        (if r.condition = .normal then .standing else r.condition)
    else s

end State

/-- HEAD_RAW_EDGE (R25): the pin changes whatever the supply; a head whose sensor has no record is not read (R23). -/
def execHeadRawEdge (input : Nat) (h : Head) (level : Bool) (s : State) : Result :=
  if s.headPins.contains (input, h) = level then .next s
  else
    event (fun s => match sensorOfInput input with
        | some x => s.headEdge x h level
        | none => s)
      { s with headPins := setPin (input, h) level s.headPins }

/-- FILTERED_EDGE (R27, R28): taken when it is due (log entry 3). -/
def execFilteredEdge (sensor : Sensor) (h : Head) (s : State) : Result := event (State.takeFiltered sensor h) s

/-- STANDING_TIMER_EXPIRY (R32): taken when it is due (log entry 3). -/
def execStandingTimerExpiry (sensor : Sensor) (h : Head) (s : State) : Result :=
  event (State.takeStanding sensor h) s

end Sys2Proof.Machine
end

