-- ==== Sys2Proof/Machine/Zones.lean ====
section
/-! DEFINITION. Zones.lean: READ SECTION, CLEAR SECTION, the dwell timers (chapter 3) and the gap timer (R88). -/

namespace Sys2Proof.Machine

namespace State

/-- READ SECTION (R62). -/
def readSection (n : Nat) (s : State) : Reply :=
  match s.sectionAt? n with
  | none => Reply.plain .noSuch
  | some r => Reply.doneWith (.sectionRec r ((s.layout.boundary n).map (fun x =>
      match s.sensor? x with
      | some q => ⟨x, q.condition, q.disturb⟩
      | none => ⟨x, .normal, 0⟩)))

/-- The first DISTURBED sensor that bounds a section, in the order entry sensor, P-N, P-R (R57; log entry 36). -/
def disturbedBound (s : State) (n : Nat) : Option Sensor := (s.layout.boundary n).find? s.isDisturbed

/-- Sections are cleared one after the other, in ascending point number for "all", each with its notices before the next (log entry
44); UNPROVEN is cleared when no UNPROVEN section remains (R56, R57). -/
def clearSections (s : State) (ns : List Nat) : State × Reply :=
  let lists := (s.sections.filter (fun r => ns.contains r.point)).map SectionRec.occ
  let u := ns.foldl clearOne s
  (if u.anyUnproven then u else u.clear .zoneTracker .unproven,
   Reply.doneWith (.cleared (lists.map identifiedAxles).sum (lists.map unidentifiedAxles).sum))

/-- CLEAR SECTION; 0 names "all" (R57, R181). -/
def clearSection (n : Nat) (s : State) : State × Reply :=
  if n = 0 then
    match s.sections.find? (fun r => (s.disturbedBound r.point).isSome) with
    | some r => (s, ⟨.conflict, .point r.point⟩)
    | none => s.clearSections (s.sections.map SectionRec.point)
  else match s.sectionAt? n with
  | none => (s, Reply.plain .noSuch)
  | some _ =>
    match s.disturbedBound n with
    | some x => (s, ⟨.conflict, .sensor x⟩)
    | none => s.clearSections [n]

/-- A dwell timer has run for the dwell limit (R59). -/
def dwellDue (s : State) (r : SectionRec) : Bool :=
  match r.dwell with
  | .running start => decide (s.layout.dwellMs ≤ YardTime.since s.now start)
  | _ => false

/-- The Route Planner takes a stalled mark that is newly set (R59, R119). -/
def stallCut (s : State) (c : CutId) : State :=
  match s.cut? c with
  | some r => if r.stalled then s else (s.modCut c (fun r => { r with stalled := true })).predict c
  | none => s

/-- DWELL TIMER EXPIRY (R59). The count in the notice is the head entry's, also where the list holds other UNIDENTIFIED entries
(log entry 37). -/
def takeDwell (n : Nat) (s : State) : State :=
  match s.sectionAt? n with
  | none => s
  | some r =>
    if s.dwellDue r then
      let s := s.modSection n (fun r => { r with dwell := match r.dwell with
        | .running t => .expired t
        | d => d })
      let s := match r.occ.head? with
        | some e =>
          let s := s.give (.cutStalled n e.occ e.count)
          match e.occ with
          | .cut c => s.stallCut c
          | .unidentified => s
        | none => s
      s.raise .zoneTracker .stall
    else s

/-- The gap timer has run out (R87, R88). -/
def gapDue (s : State) : Bool :=
  match s.crest.gap with
  | some e => s.crest.phase == .separating && decide (YardTime.since s.now e < 2 ^ 31)
  | none => false

/-- GAP TIMER EXPIRY (R88, R94). -/
def takeGap (s : State) : State := if s.gapDue then s.gapExpired else s

end State

def execReadSection (p : Port) (tag : Nat) (f : Fields Nat) (s : State) : Result :=
  request p tag 5 (.readSection p tag f) (judge p 5 f (reading State.readSection)) s

def execClearSection (p : Port) (tag : Nat) (f : Fields Nat) (s : State) : Result :=
  request p tag 48 (.clearSection p tag f) (judge p 48 f (answered State.clearSection)) s

/-- DWELL_TIMER_EXPIRY (R59): taken when it is due (log entry 3). -/
def execDwellTimerExpiry (point : Nat) (s : State) : Result := event (State.takeDwell point) s

/-- GAP_TIMER_EXPIRY (R88): taken when it is due (log entry 3). -/
def execGapTimerExpiry (s : State) : Result := event State.takeGap s

end Sys2Proof.Machine
end

