-- ==== Sys2Proof/Machine/Idle.lean ====
section
/-! DEFINITION. Idle.lean: what the block does when no command waits (log entries 2 and 5): the events that are due, and the
tick of the clock. -/

namespace Sys2Proof.Machine

namespace State

/-- The command of a whole frame in a receiver (R182). -/
def frameDue (p : Port) (q : PortState) : Option Instr :=
  q.rx.frame.map (fun f =>
    if f.good && f.kind == 1 then .requestFrameReceived p f.tag f.code f.payload
    else if f.good && f.kind == 2 then .urgentFrameReceived p f.tag f.code f.payload
    else .frameDiscarded p)

/-- What is due at one port: notices given to it, a whole frame, an urgent frame, a working request (R182, R184, R186, R189). -/
def portDue (p : Port) (q : PortState) : Option Instr :=
  if q.given.isEmpty then
    match frameDue p q with
    | some i => some i
    | none =>
      match q.readyUrgent with
      | some i => some i
      | none => q.ready
  else some (.noticeGiven p)

def portsDue (s : State) : Option Instr := allPorts.findSome? (fun p => portDue p (s.ports.get p))

/-- Work between blocks that is due (R72, R111, R125, R149). -/
def workDue (s : State) : Option Instr :=
  match s.diversionDue with
  | d :: _ => some (.diversionRequest d.cut d.point d.cause d.outlet)
  | [] =>
    match s.evalDue with
    | e :: _ => some (.pointEvaluation e.point)
    | [] =>
      match s.trackReportDue with
      | t :: _ => some (.trackStateReport t)
      | [] => if s.stagedLeftDue || s.freedDue then some .stagedRecordLeft else none

/-- What is due at one sensor: a filtered edge, or a standing timer (R27, R32). With the filter OFF an edge of head B is due at the
clock value it is dated at, also where a raw edge of A of the same 0.01 ms is still to come (log entry 58). -/
def sensorDue (s : State) (r : SensorRec) : Option Instr :=
  match r.nextEdge s.clock with
  | some (h, _) => some (.filteredEdge r.sensor h)
  | none =>
    if s.standingDue r .a then some (.standingTimerExpiry r.sensor .a)
    else if s.standingDue r .b then some (.standingTimerExpiry r.sensor .b)
    else none

/-- What is due at one point: a detection event, or the timeout of its throw (R124, R132). -/
def pointDue (s : State) (r : PointRec) : Option Instr :=
  if (detectionDue s.clock r).isSome then some (.detectionEvent r.num)
  else if timeoutDue s.now r then some (.throwTimeout r.num)
  else none

/-- The timers that are due, after the inputs (R59, R88, R182). -/
def timersDue (s : State) : Option Instr :=
  if s.gapDue then some .gapTimerExpiry
  else match s.sections.find? s.dwellDue with
  | some r => some (.dwellTimerExpiry r.point)
  | none => (allPorts.find? (fun p => (s.ports.get p).rx.pauseDue s.clock)).map Instr.interByteTimeout

/-- The next event that is due, if any: what has been produced is taken before inputs, and inputs before timers (log entry
5). -/
def nextDue (s : State) : Option Instr :=
  if s.powered then
    match s.portsDue with
    | some i => some i
    | none =>
      match s.workDue with
      | some i => some i
      | none =>
        match s.sensors.findSome? s.sensorDue with
        | some i => some i
        | none =>
          match s.points.findSome? s.pointDue with
          | some i => some i
          | none => s.timersDue
  else none

/-- The longest time of a write has passed (R13). -/
def writeDue (s : State) : Bool :=
  match s.load with
  | .writing _ _ since => s.powered && decide (since + Config.writeLimitMs * Config.ticksPerMs ≤ s.clock)
  | _ => false

/-- A hundredth of a millisecond passes, and free lines start their next frames (log entry 2). -/
def tick (s : State) : State :=
  if s.powered then { s.startLines with clock := s.clock + 1 } else s

end State

end Sys2Proof.Machine
end

