-- ==== Sys2Proof/Machine/LayoutOps.lean ====
section
/-! DEFINITION. LayoutOps.lean: the Layout Store: items of a load, validation, the switch-over, power-on and yard clear
(chapter 1). -/

namespace Sys2Proof.Machine

/-! ### Placing items (R9) -/

/-- Insert an item in a list that stands in ascending key order. -/
def insertItem {α : Type} (key : α → Nat) (a : α) : List α → List α
  | [] => [a]
  | x :: xs => if key a < key x then a :: x :: xs else x :: insertItem key a xs

/-- Put an item in a list that stands in ascending key order, in place of the item of the same key. -/
def putItem {α : Type} (key : α → Nat) (a : α) (l : List α) : List α :=
  insertItem key a (l.filter (fun x => key x != key a))

/-! ### Validation (R12) -/

def inRange (lo hi n : Nat) : Bool := lo ≤ n && n ≤ hi

/-- An optional value is absent or in range. -/
def optRange (lo hi : Nat) : Option Nat → Bool
  | some n => inRange lo hi n
  | none => true

namespace Layout

/-- An outlet's target has an item in the load. -/
def hasTarget (l : Layout) : Target → Bool
  | .point n => (l.point? n).isSome
  | .track n => (l.track? n).isSome

/-- Check 2 on one point item. -/
def pointOk (l : Layout) (i : PointItem) : Bool :=
  inRange 100 5000 i.toe && inRange 200 20000 i.lenN && inRange 200 20000 i.lenR &&
  optRange 200 4000 i.allowance && optRange 300 5000 i.timeout &&
  decide (i.toe < i.lenN) && decide (i.toe < i.lenR) && i.targetN != i.targetR &&
  l.hasTarget i.targetN && l.hasTarget i.targetR &&
  (match i.parent with
   | .crest => true
   | .point n => (l.point? n).isSome)

/-- Check 3 on one track item; holder and notify flags are judged with the capacity (log entry 14). -/
def trackOk (l : Layout) (i : TrackItem) : Bool :=
  inRange 1 1000 i.capacity &&
  (match i.alternate with
   | some a => (l.track? a).isSome && a != i.num
   | none => true) &&
  (i.holder == 1 || i.holder == 2 || i.holder == 4) && optRange 0 1 i.notifyCopy && optRange 0 1 i.notifyPass

/-- Check 4 on one sensor item. -/
def sensorOk (l : Layout) (i : SensorItem) : Bool :=
  (match sensorOfInput i.input with
   | some x => l.hasSensor x
   | none => false) &&
  inRange 0 3 i.filter && inRange 40 200 i.spacing

/-- Check 5. -/
def yardOk (y : YardItem) : Bool :=
  optRange 50 100 y.early && optRange 50 2000 y.separation && optRange 5 100 y.standing &&
  optRange 1 7 y.disturbance && optRange 50 1200 y.dwell

def crestPoints (l : Layout) : List PointItem := l.points.filter (fun i => i.parent == .crest)

/-- The outlets that target something. -/
def outletsTo (l : Layout) (t : Target) : List Step := (l.outlets.filter (fun e => e.2 == t)).map (fun e => e.1)

/-- Check 7 on one point. -/
def parentOk (l : Layout) (i : PointItem) : Bool :=
  match i.parent, l.outletsTo (.point i.num) with
  | .crest, [] => true
  | .point p, [st] => st.point == p
  | _, _ => false

/-- The points reached from the root by following outlets (check 9); the fuel is the number of points. -/
def reach (l : Layout) : Nat → List Nat → List Nat
  | 0, seen => seen
  | fuel + 1, seen =>
    let next := (l.outlets.filter (fun e => seen.contains e.1.point)).filterMap (fun e =>
      match e.2 with
      | .point n => some n
      | .track _ => none)
    l.reach fuel (seen ++ (next.filter (fun n => !seen.contains n)).eraseDups)

def reached (l : Layout) : List Nat := l.reach l.points.length l.root?.toList

/-- Tracks whose initial holder is the port of a number. -/
def heldBy (l : Layout) (n : Nat) : List TrackItem := l.tracks.filter (fun i => i.holder == n)

/-- The first failure of a check on the items of a list. -/
def firstBad {α : Type} (ok : α → Bool) (num : α → Nat) (c : Nat) (k : ItemKind) (l : List α) :
    Option (Nat × ItemKind × Nat) := (l.find? (fun a => !ok a)).map (fun a => (c, k, num a))

/-- The eleven checks in order, each answering its first failure (R12). A sensor is named by its input number; the number that
goes with the kinds NONE and YARD is 0 (log entry 35). -/
def checks (l : Layout) : List (Option (Nat × ItemKind × Nat)) :=
  [ if l.points.isEmpty then some (1, .none, 0) else none,
    firstBad l.pointOk PointItem.num 2 .point l.points,
    firstBad l.trackOk TrackItem.num 3 .track l.tracks,
    firstBad l.sensorOk SensorItem.input 4 .sensor l.sensors,
    (match l.yard with
     | some y => if yardOk y then none else some (5, .yard, 0)
     | none => none),
    (match l.crestPoints with
     | [] => some (6, .none, 0)
     | [_] => none
     | _ :: i :: _ => some (6, .point, i.num)),
    firstBad l.parentOk PointItem.num 7 .point l.points,
    firstBad (fun i => (l.outletsTo (.track i.num)).length == 1) TrackItem.num 8 .track l.tracks,
    firstBad (fun i => l.reached.contains i.num) PointItem.num 9 .point l.points,
    firstBad (fun i => decide ((l.pathTo i.num).length ≤ Config.pathLimit)) TrackItem.num 10 .track l.tracks,
    ([1, 2, 4].filterMap (fun h => ((l.heldBy h)[Config.grantSlots]?).map
      (fun i => (11, ItemKind.track, i.num)))).head? ]

/-- The first check that fails, with the item to blame (R11, R12). -/
def failedCheck (l : Layout) : Option (Nat × ItemKind × Nat) := (l.checks.filterMap id).head?

end Layout

/-! ### Records made from a layout (R15) -/

namespace State

def headPin (s : State) (x : Sensor) (h : Head) : Bool := s.headPins.contains (inputOf x, h)
def detPin (s : State) (n : Nat) (o : Pos) : Bool := s.detPins.contains (n, o)

/-- A head as it enters a new record: a head that had a filtered level keeps it, else it takes its raw level; a head that is
on starts its standing timer (R24, R25). A change that still waits then qualifies by the filter of the new record (log entry 51). -/
def newHead (s : State) (x : Sensor) (h : Head) : HeadRec :=
  let kept := match s.sensor? x with
    | some r => settleOwed s.clock r.filter (r.head h).level (r.head h).owed
    | none => (s.headPin x h, [])
  ⟨kept.1, kept.2, if kept.1 then .running s.clock else .stopped⟩

/-- A sensor record made at power-on or commit (R24). -/
def newSensor (s : State) (l : Layout) (x : Sensor) : SensorRec :=
  let a := s.newHead x .a
  let b := s.newHead x .b
  let set := l.sensorSettings x
  { sensor := x, filter := set.1, spacing := set.2, condition := .normal, phase := .idle, settling := a.level || b.level,
    a := a, b := b, first := none, second := none, disturb := 0 }

/-- A detection input as it enters a new record (R124). -/
def newInput (s : State) (n : Nat) (o : Pos) : DetInput :=
  let kept := match s.point? n with
    | some r =>
      let i := match o with
        | .n => r.detN
        | .r => r.detR
      settleOwed s.clock (Config.detectionMs * Config.ticksPerMs) i.level i.owed
    | none => (s.detPin n o, [])
  ⟨kept.1, kept.2⟩

/-- A point record made at power-on or commit: its state from the detection pair (R15, R123). -/
def newPoint (s : State) (i : PointItem) : PointRec :=
  let n := s.newInput i.num .n
  let r := s.newInput i.num .r
  let pair := showPair n.level r.level
  { num := i.num,
    state := (match pair with
      | .alone p => .locked p
      | .neither => .fault .detectionLost
      | .both => .fault .detectionConflict),
    last := (match pair with
      | .alone p => some p
      | _ => none),
    detN := n, detR := r, blocked := none, runIn := false, measured := none, timing := itemTiming i,
    pendingTiming := none, driveN := false, driveR := false }

end State

/-- A section record made at power-on or commit (R41). -/
def newSection (i : PointItem) : SectionRec := ⟨i.num, false, [], .stopped, []⟩

/-- A track record made at power-on or commit (R148). -/
def newTrack (i : TrackItem) : TrackRec :=
  { num := i.num, state := .closed, fill := 0, capacity := i.capacity, alternate := i.alternate, committed := 0,
    lastArrived := none, holder := (portOfNumber i.holder).getD .planning,
    notifyCopy := i.notifyCopy = some 1, notifyPass := i.notifyPass = some 1 }

def fullRights : Rights := ⟨true, true, true⟩

/-- Place a grant in the lowest free slot (R160). -/
def placeLowest (g : Grant) : List (Option Grant) → List (Option Grant)
  | [] => []
  | none :: xs => some g :: xs
  | some x :: xs => some x :: placeLowest g xs

/-- The grant tables after power-on or commit: each track's full grant with its initial holder (R15, R160). -/
def initialCustody (l : Layout) : PerPort Custody :=
  let empty : PerPort Custody := ⟨Custody.empty, Custody.empty, Custody.absent, Custody.empty⟩
  l.tracks.foldl (fun q i =>
    let p := (portOfNumber i.holder).getD .planning
    let c := q.get p
    q.set p { c with slots := placeLowest ⟨i.num, fullRights, p⟩ c.slots }) empty

namespace State

/-- Every block but the Hold Unit and the ports takes the values R15 gives for a layout. Work outstanding between blocks
concerns the old layout and ends with it (log entry 15). -/
def install (s : State) (l : Layout) : State :=
  { s with
    active := some l, load := .absent, mode := .standby,
    sensors := l.sensorNames.map (s.newSensor l),
    sections := l.points.map newSection,
    crest := Crest.idle, planned := [], cuts := [],
    demands := l.points.map (fun i => ⟨i.num, []⟩),
    points := l.points.map s.newPoint, freeze := false,
    tracks := l.tracks.map newTrack, custody := initialCustody l,
    evalDue := [], diversionDue := [], trackReportDue := [], stagedLeftDue := false, freedDue := false }

/-- The hold reasons at the switch-over: those that follow a condition follow the new state; UNPROVEN and the latched and
staging reasons are kept (R15, R139, R171). -/
def commitHolds (s : State) : State :=
  let s := ((s.clear .layoutStore .nextRestricted).clear .layoutStore .stall).clear .layoutStore .runIn
  if s.anyPointFault then s.raise .layoutStore .pointFault else s.clear .layoutStore .pointFault

/-- The switch-over at the end of a successful write (R15, R22). -/
def switchOver (s : State) (l : Layout) : State :=
  let before := s.mode
  let s := ({ s with store := ⟨l, true⟩ }).install l
  (s.commitHolds).give (.mode .standby (some before) .commit)

/-- The part with the supply off: pins and the stored copy remain (R13, R16). -/
def unpowered (s : State) : State :=
  { State.reset with
    pending := s.pending, powered := false, freeCount := s.freeCount, headPins := s.headPins, detPins := s.detPins,
    store := s.store }

/-- Power-on: every block at its initial values, a MODE notice queued at each port (R16, R22). -/
def powerUp (s : State) : State :=
  let off := s.unpowered
  if off.store.valid then
    { off.install off.store.layout with
      powered := true,
      ports := ⟨.atPowerOn .planning .standby, .atPowerOn .crest .standby, .atPowerOn .speed .standby,
        .atPowerOn .bowl .standby⟩ }
  else { off with powered := true }

/-- A sensor record at YARD CLEAR (R24). -/
def clearSensor (r : SensorRec) : SensorRec :=
  { r with phase := .idle, settling := r.a.level || r.b.level, first := none, second := none, disturb := 0 }

/-- YARD CLEAR empties the live tracking state (R21, R24, R41, R148). Sections that held axles have become empty, which
Point Control hears (R41), in ascending point number (log entry 61); it throws no point since every section is UNPROVEN. -/
def clearYard (s : State) : State :=
  let emptied := (s.sections.filter (fun r => !r.occ.isEmpty)).map (fun r => (⟨r.point, false⟩ : EvalDue))
  let s : State := { s with
    planned := [], floor := 0, cuts := [],
    demands := s.demands.map (fun q => { q with entries := [] }),
    sections := s.sections.map (fun r => { r with proven := false, occ := [], dwell := .stopped, exits := [] }),
    tracks := s.tracks.map (fun r => { r with committed := 0, lastArrived := none }),
    sensors := s.sensors.map clearSensor, crest := Crest.idle, evalDue := s.evalDue ++ emptied }
  (s.clear .zoneTracker .stall).give (.mode .standby (some .standby) .yardClear)

end State

end Sys2Proof.Machine
end

