-- ==== Sys2Proof/Machine/LayoutStore.lean ====
section
/-! DEFINITION. LayoutStore.lean: the layout requests, the end of a write, and the mode requests (sections 1.3, 1.5). -/

namespace Sys2Proof.Machine

namespace State

/-- Roll list and Cut Table are empty (R8, R11). -/
def planEmpty (s : State) : Bool := s.planned.isEmpty && s.cuts.isEmpty

/-- LAYOUT BEGIN (R8). -/
def layoutBegin (p : Port) (s : State) : State × Reply :=
  if s.mode = .active ∨ s.mode = .draining then (s, Reply.plain .wrongMode)
  else match s.load with
  | .writing _ _ _ => (s, Reply.plain .busy)
  | .opened owner _ =>
    if owner = p ∧ s.planEmpty then ({ s with load := .opened p Layout.empty }, Reply.done)
    else (s, Reply.plain .conflict)
  | .absent =>
    if s.planEmpty then ({ s with load := .opened p Layout.empty }, Reply.done) else (s, Reply.plain .conflict)

/-- Place an item of a load: BUSY, CONFLICT, BAD VALUE for an object that cannot exist, else DONE (R9). -/
def layoutItem (p : Port) (exists' : Bool) (put : Layout → Layout) (s : State) : State × Reply :=
  match s.load with
  | .writing _ _ _ => (s, Reply.plain .busy)
  | .absent => (s, Reply.plain .conflict)
  | .opened owner l =>
    if owner ≠ p then (s, Reply.plain .conflict)
    else if !exists' then (s, Reply.plain .badValue)
    else ({ s with load := .opened owner (put l) }, Reply.done)

/-- LAYOUT ABANDON (R10). -/
def layoutAbandon (p : Port) (s : State) : State × Reply :=
  match s.load with
  | .writing _ _ _ => (s, Reply.plain .busy)
  | .absent => (s, Reply.plain .conflict)
  | .opened owner _ =>
    if owner = p then ({ s with load := .absent }, Reply.done) else (s, Reply.plain .conflict)

/-- The write of a validated load begins: the layout is written first, so the check word no longer agrees (R11, R13). -/
def startWrite (s : State) (p : Port) (l : Layout) : State :=
  { s with load := .writing p l s.clock, store := ⟨l, false⟩ }

/-- LAYOUT COMMIT (R11): answered when the write ends, unless it is refused. -/
def layoutCommit (p : Port) (s : State) : State × Option Reply :=
  match s.load with
  | .absent => (s, some (Reply.plain .conflict))
  | .writing owner _ _ => (s, some (Reply.plain (if owner = p then .busy else .conflict)))
  | .opened owner l =>
    if owner ≠ p then (s, some (Reply.plain .conflict))
    else if !s.planEmpty then (s, some (Reply.plain .conflict))
    else match l.failedCheck with
      | some (n, k, i) => (s, some ⟨.badValue, .check n k i⟩)
      | none => (s.startWrite p l, none)

/-- The answer to LAYOUT COMMIT goes to the request that waits in the owner's working slot (R11, R13). -/
def answerCommit (s : State) (p : Port) (r : Reply) : State :=
  match (s.ports.get p).working with
  | some ⟨.layoutCommit _ tag _, true, _⟩ => s.modPort p (fun q => q.answer tag 29 r)
  | _ => s

/-- The end of a write (R13). -/
def writeEnd (readsBack : Bool) (s : State) : State :=
  match s.load with
  | .writing p l _ =>
    if readsBack then (s.switchOver l).answerCommit p Reply.done
    else ({ s with load := .opened p l, store := ⟨l, false⟩ }).answerCommit p ⟨.conflict, .check 12 .none 0⟩
  | _ => s

/-- START HUMPING (R18): one update of the hold set carries the entry to ACTIVE (R173). -/
def startHumping (s : State) : State × Reply :=
  match s.mode with
  | .setup => (s, Reply.plain .wrongMode)
  | .active => (s, Reply.done)
  | before =>
    match s.load with
    | .writing _ _ _ => (s, Reply.plain .busy)
    | .opened _ _ => (s, Reply.plain .conflict)
    | .absent =>
      let s := ({ s with mode := .active }).stagingAttempt
      let s := if s.anyUnproven then s.raise .zoneTracker .unproven else s
      let s := if s.anyPointFault then s.raise .pointControl .pointFault else s
      (s.give (.mode .active (some before) .start), Reply.done)

/-- STOP HUMPING (R19). -/
def stopHumping (s : State) : State × Reply :=
  match s.mode with
  | .setup => (s, Reply.plain .wrongMode)
  | .active =>
    let mode : Mode := if s.hasMoving then .draining else .standby
    let s := ({ s with mode := mode }).unstageIfStaged
    (s.give (.mode mode (some .active) .stop), Reply.done)
  | _ => (s, Reply.done)

/-- YARD CLEAR (R21). -/
def yardClear (s : State) : State × Reply :=
  match s.mode with
  | .standby =>
    match s.load with
    | .writing _ _ _ => (s, Reply.plain .busy)
    | _ => (s.clearYard, Reply.done)
  | _ => (s, Reply.plain .wrongMode)

end State

def execLayoutBegin (p : Port) (tag : Nat) (f : Fields Unit) (s : State) : Result :=
  request p tag 24 (.layoutBegin p tag f) (judge p 24 f (answered (fun _ => State.layoutBegin p))) s

/-- LAYOUT POINT (R9): the point is P1 to P63. -/
def execLayoutPoint (p : Port) (tag : Nat) (f : Fields PointItem) (s : State) : Result :=
  request p tag 25 (.layoutPoint p tag f) (judge p 25 f (answered (fun i =>
    State.layoutItem p (inRange 1 63 i.num) (fun l => { l with points := putItem PointItem.num i l.points })))) s

/-- LAYOUT TRACK (R9): the track is T1 to T64. -/
def execLayoutTrack (p : Port) (tag : Nat) (f : Fields TrackItem) (s : State) : Result :=
  request p tag 26 (.layoutTrack p tag f) (judge p 26 f (answered (fun i =>
    State.layoutItem p (inRange 1 64 i.num) (fun l => { l with tracks := putItem TrackItem.num i l.tracks })))) s

/-- LAYOUT SENSOR (R9): the sensor is K, Pn-N or Pn-R. -/
def execLayoutSensor (p : Port) (tag : Nat) (f : Fields SensorItem) (s : State) : Result :=
  request p tag 27 (.layoutSensor p tag f) (judge p 27 f (answered (fun i =>
    State.layoutItem p (sensorOfInput i.input).isSome
      (fun l => { l with sensors := putItem SensorItem.input i l.sensors })))) s

/-- LAYOUT YARD (R6, R9). -/
def execLayoutYard (p : Port) (tag : Nat) (f : Fields YardItem) (s : State) : Result :=
  request p tag 28 (.layoutYard p tag f) (judge p 28 f (answered (fun i =>
    State.layoutItem p true (fun l => { l with yard := some i })))) s

def execLayoutCommit (p : Port) (tag : Nat) (f : Fields Unit) (s : State) : Result :=
  request p tag 29 (.layoutCommit p tag f) (judge p 29 f (fun _ => State.layoutCommit p)) s

def execLayoutAbandon (p : Port) (tag : Nat) (f : Fields Unit) (s : State) : Result :=
  request p tag 30 (.layoutAbandon p tag f) (judge p 30 f (answered (fun _ => State.layoutAbandon p))) s

/-- COMMIT_WRITE_END (R13). The update of the hold set at the switch-over has source Layout Store. -/
def execCommitWriteEnd (readsBack : Bool) (s : State) : Result := event (State.writeEnd readsBack) s

def execStartHumping (p : Port) (tag : Nat) (f : Fields Unit) (s : State) : Result :=
  request p tag 32 (.startHumping p tag f) (judge p 32 f (answered (fun _ => State.startHumping))) s

def execStopHumping (p : Port) (tag : Nat) (f : Fields Unit) (s : State) : Result :=
  request p tag 33 (.stopHumping p tag f) (judge p 33 f (answered (fun _ => State.stopHumping))) s

def execYardClear (p : Port) (tag : Nat) (f : Fields Unit) (s : State) : Result :=
  request p tag 34 (.yardClear p tag f) (judge p 34 f (answered (fun _ => State.yardClear))) s

end Sys2Proof.Machine
end

