-- ==== Sys2Proof/Machine/Power.lean ====
section
/-! DEFINITION. Power.lean: POWER_ON and POWER_LOSS (R13, R16). -/

namespace Sys2Proof.Machine

/-- POWER_ON (R16). A supply that is on has first gone off (log entry 16). -/
def execPowerOn (s : State) : Result := .next s.powerUp

/-- POWER_LOSS (R13): all activity ends; pins and the stored copy remain. A write in progress has already made the check word
disagree (`startWrite`), so its copy is invalid. -/
def execPowerLoss (s : State) : Result := .next s.unpowered

end Sys2Proof.Machine
end

