-- ==== Sys2Proof/Machine/Routes.lean ====
section
/-! DEFINITION. Routes.lean: the Route Planner's requests and the diversion requests it takes (chapter 6). -/

namespace Sys2Proof.Machine

namespace State

/-- READ CUT (R121). -/
def readCut (c : CutId) (s : State) : Reply :=
  match s.cut? c with
  | none => Reply.plain .noSuch
  | some r => Reply.doneWith (.cut r (r.path.map (fun st => ⟨st, (s.demandOf c st.point).map Demand.toe⟩)))

/-- The head has made its head pass at an outlet sensor of the point, or is in a track (R110 case 4). An outlet of the
point has been passed exactly when the exit register of its section holds the cut (R39, R48). -/
def headPassed (s : State) (r : CutRec) (n : Nat) : Bool :=
  r.frontier.isNone ||
    (match s.sectionAt? n with
     | some x => x.exits.any (fun e => e.cut == r.id)
     | none => false)

/-- SPEED REPORT (R110). -/
def speedReport (a : SpeedArgs) (s : State) : State × Reply :=
  if a.speed < 20 ∨ 1500 < a.speed then (s, Reply.plain .badValue)
  else match s.cut? a.cut with
  | none => (s, Reply.plain .noSuch)
  | some r =>
    if !r.path.any (fun st => st.point == a.point) then (s, Reply.plain .noSuch)
    else if s.headPassed r a.point then (s, Reply.plain .tooLate)
    else ((s.modCut a.cut (fun r => { r with speed := some ⟨a.point, a.speed⟩ })).predict a.cut, Reply.done)

/-- The step whose outlet the head must still take: step f - 1 (R116). -/
def stepAhead (r : CutRec) : Option Step :=
  match r.frontier with
  | some (f + 1) => r.path[f]?
  | _ => none

/-- Case 4 of R116: below the end of an OPEN path. -/
def headBeyondEnd (l : Layout) (r : CutRec) : Bool :=
  r.pathEnd == .opened &&
    (match r.path.getLast?, r.head with
     | some st, some h => l.sensorAtOrBelow st.point h.sensor
     | _, _ => false)

/-- Cases 3 to 5 of R116 for a FORMING or ROLLING record. -/
def rerouteLate (l : Layout) (r : CutRec) (t : Nat) : Bool :=
  r.state != .staged &&
    (r.frontier.isNone || headBeyondEnd l r ||
      (match stepAhead r with
       | some st => !l.isBelow st t
       | none => false))

/-- Case 6 of R116. -/
def rerouteConflict (r : CutRec) (t : TrackRec) : Bool :=
  if r.state = .staged then t.state != .opened else t.state == .closing || t.state == .closed

/-- A reroute (R117): the steps before the frontier stay, the others are those of the path to the new track. The frontier of
a STAGED record is 0, so its whole path is replaced. -/
def applyReroute (s : State) (r : CutRec) (t : Nat) : State × Reply :=
  let f := r.frontier.getD 0
  let steps := (s.layout.pathTo t).drop f
  let path := r.path.take f ++ steps
  let s1 := s.removeDemands r.id (fun _ => true)
  let s2 := ((s1.insertDemands r.id steps).modCut r.id (fun r => { r with
    path := path, pathEnd := .track, dest := t, status := .rerouted,
    speed := keepSpeed path r.speed })).moveCommitment r.dest t
  let s3 := (s2.predict r.id).give
    (.cutDiverted r.id .reroute (stepAhead r) r.dest t .rerouted path.length .track)
  (s3.reportPool s1 s, Reply.doneWith (.path path))

/-- REROUTE CUT (R116, R117). -/
def rerouteCut (a : RerouteArgs) (s : State) : State × Reply :=
  match s.cut? a.cut, s.track? a.track with
  | some r, some t =>
    if rerouteLate s.layout r a.track then (s, Reply.plain .tooLate)
    else if rerouteConflict r t then (s, Reply.plain .conflict)
    else if a.track = r.dest ∧ r.pathEnd = .track then (s, Reply.done)
    else if s.poolFree + s.demandCount r.id < ((s.layout.pathTo a.track).drop (r.frontier.getD 0)).length then
      (s, Reply.plain .full)
    else s.applyReroute r a.track
  | _, _ => (s, Reply.plain .noSuch)

/-- A CATCH-UP or BLOCKED request still applies: the point is a step of the path at or after the frontier, and the cut's
demand there does not already need the outlet (R111). -/
def requestApplies (s : State) (d : DivReq) : Bool :=
  match s.cut? d.cut with
  | none => false
  | some r =>
    match r.frontier with
    | none => false
    | some f =>
      (r.path.drop f).any (fun st => st.point == d.point) &&
        (match s.demandOf d.cut d.point with
         | some e => e.pos != d.outlet
         | none => false)

def divertCauseOf : RequestCause → DivertCause
  | .catchUp => .catchUp
  | .blocked => .blocked

/-- The Route Planner takes a diversion request that is due (R111). -/
def takeDiversion (d : DivReq) (s : State) : State :=
  if s.diversionDue.contains d then
    let s := { s with diversionDue := dropFirst d s.diversionDue }
    if s.requestApplies d then s.divert d.cut ⟨d.point, d.outlet⟩ (divertCauseOf d.cause) else s
  else s

end State

def execReadCut (p : Port) (tag : Nat) (f : Fields CutId) (s : State) : Result :=
  request p tag 2 (.readCut p tag f) (judge p 2 f (reading State.readCut)) s

def execSpeedReport (p : Port) (tag : Nat) (f : Fields SpeedArgs) (s : State) : Result :=
  request p tag 56 (.speedReport p tag f) (judge p 56 f (answered State.speedReport)) s

def execRerouteCut (p : Port) (tag : Nat) (f : Fields RerouteArgs) (s : State) : Result :=
  request p tag 49 (.rerouteCut p tag f) (judge p 49 f (answered State.rerouteCut)) s

/-- DIVERSION_REQUEST (R111): taken when it is due (log entry 3). -/
def execDiversionRequest (cut : CutId) (point : Nat) (cause : RequestCause) (outlet : Pos) (s : State) : Result :=
  event (State.takeDiversion ⟨cut, point, cause, outlet⟩) s

end Sys2Proof.Machine
end

