-- ==== Sys2Proof/Machine/Dispatch.lean ====
section
/-! DEFINITION. Dispatch.lean: one arm per command, each one direct call of its meaning. -/

namespace Sys2Proof.Machine

def exec (i : Instr) (s : State) : Host.Outcome State Fault Refusal :=
  match i with
  | .powerOn => Sys2Proof.Machine.execPowerOn s
  | .readList p tag f => Sys2Proof.Machine.execReadList p tag f s
  | .readCut p tag f => Sys2Proof.Machine.execReadCut p tag f s
  | .readPoint p tag f => Sys2Proof.Machine.execReadPoint p tag f s
  | .readTrack p tag f => Sys2Proof.Machine.execReadTrack p tag f s
  | .readSection p tag f => Sys2Proof.Machine.execReadSection p tag f s
  | .readPort p tag f => Sys2Proof.Machine.execReadPort p tag f s
  | .readGrants p tag f => Sys2Proof.Machine.execReadGrants p tag f s
  | .setMask p tag f => Sys2Proof.Machine.execSetMask p tag f s
  | .portReset p tag f => Sys2Proof.Machine.execPortReset p tag f s
  | .releaseHump p tag f => Sys2Proof.Machine.execReleaseHump p tag f s
  | .holdNow p tag urgent f => Sys2Proof.Machine.execHoldNow p tag urgent f s
  | .enterCut p tag f => Sys2Proof.Machine.execEnterCut p tag f s
  | .amendCut p tag f => Sys2Proof.Machine.execAmendCut p tag f s
  | .withdrawCut p tag f => Sys2Proof.Machine.execWithdrawCut p tag f s
  | .layoutBegin p tag f => Sys2Proof.Machine.execLayoutBegin p tag f s
  | .layoutPoint p tag f => Sys2Proof.Machine.execLayoutPoint p tag f s
  | .layoutTrack p tag f => Sys2Proof.Machine.execLayoutTrack p tag f s
  | .layoutSensor p tag f => Sys2Proof.Machine.execLayoutSensor p tag f s
  | .layoutYard p tag f => Sys2Proof.Machine.execLayoutYard p tag f s
  | .layoutCommit p tag f => Sys2Proof.Machine.execLayoutCommit p tag f s
  | .layoutAbandon p tag f => Sys2Proof.Machine.execLayoutAbandon p tag f s
  | .commitWriteEnd readsBack => Sys2Proof.Machine.execCommitWriteEnd readsBack s
  | .startHumping p tag f => Sys2Proof.Machine.execStartHumping p tag f s
  | .stopHumping p tag f => Sys2Proof.Machine.execStopHumping p tag f s
  | .yardClear p tag f => Sys2Proof.Machine.execYardClear p tag f s
  | .holdHump p tag f => Sys2Proof.Machine.execHoldHump p tag f s
  | .acceptNext p tag f => Sys2Proof.Machine.execAcceptNext p tag f s
  | .blockPoint p tag f => Sys2Proof.Machine.execBlockPoint p tag f s
  | .restorePoint p tag f => Sys2Proof.Machine.execRestorePoint p tag f s
  | .freezePoints p tag urgent f => Sys2Proof.Machine.execFreezePoints p tag urgent f s
  | .unfreeze p tag f => Sys2Proof.Machine.execUnfreeze p tag f s
  | .setPointTiming p tag f => Sys2Proof.Machine.execSetPointTiming p tag f s
  | .ackFault p tag f => Sys2Proof.Machine.execAckFault p tag f s
  | .ackTracking p tag f => Sys2Proof.Machine.execAckTracking p tag f s
  | .ackIntrusion p tag f => Sys2Proof.Machine.execAckIntrusion p tag f s
  | .clearSection p tag f => Sys2Proof.Machine.execClearSection p tag f s
  | .rerouteCut p tag f => Sys2Proof.Machine.execRerouteCut p tag f s
  | .recallGrant p tag f => Sys2Proof.Machine.execRecallGrant p tag f s
  | .speedReport p tag f => Sys2Proof.Machine.execSpeedReport p tag f s
  | .closeTrack p tag f => Sys2Proof.Machine.execCloseTrack p tag f s
  | .openTrack p tag f => Sys2Proof.Machine.execOpenTrack p tag f s
  | .pullRecord p tag f => Sys2Proof.Machine.execPullRecord p tag f s
  | .setCapacity p tag f => Sys2Proof.Machine.execSetCapacity p tag f s
  | .setAlternate p tag f => Sys2Proof.Machine.execSetAlternate p tag f s
  | .copyGrant p tag f => Sys2Proof.Machine.execCopyGrant p tag f s
  | .passGrant p tag f => Sys2Proof.Machine.execPassGrant p tag f s
  | .takeGrant p tag f => Sys2Proof.Machine.execTakeGrant p tag f s
  | .refuseGrant p tag f => Sys2Proof.Machine.execRefuseGrant p tag f s
  | .dropGrant p tag f => Sys2Proof.Machine.execDropGrant p tag f s
  | .unknownRequest p tag code urgent => Sys2Proof.Machine.execUnknownRequest p tag code urgent s
  | .requestFrameReceived p tag code payload => Sys2Proof.Machine.execRequestFrameReceived p tag code payload s
  | .urgentFrameReceived p tag code payload => Sys2Proof.Machine.execUrgentFrameReceived p tag code payload s
  | .frameDiscarded p => Sys2Proof.Machine.execFrameDiscarded p s
  | .interByteTimeout p => Sys2Proof.Machine.execInterByteTimeout p s
  | .lineBreakStart p => Sys2Proof.Machine.execLineBreakStart p s
  | .lineBreakReset p => Sys2Proof.Machine.execLineBreakReset p s
  | .frameSent p => Sys2Proof.Machine.execFrameSent p s
  | .noticeGiven p => Sys2Proof.Machine.execNoticeGiven p s
  | .headRawEdge input h level => Sys2Proof.Machine.execHeadRawEdge input h level s
  | .filteredEdge sensor h => Sys2Proof.Machine.execFilteredEdge sensor h s
  | .standingTimerExpiry sensor h => Sys2Proof.Machine.execStandingTimerExpiry sensor h s
  | .gapTimerExpiry => Sys2Proof.Machine.execGapTimerExpiry s
  | .dwellTimerExpiry point => Sys2Proof.Machine.execDwellTimerExpiry point s
  | .pointEvaluation point => Sys2Proof.Machine.execPointEvaluation point s
  | .diversionRequest cut point cause outlet => Sys2Proof.Machine.execDiversionRequest cut point cause outlet s
  | .detectionInputEdge channel which level => Sys2Proof.Machine.execDetectionInputEdge channel which level s
  | .detectionEvent point => Sys2Proof.Machine.execDetectionEvent point s
  | .throwTimeout point => Sys2Proof.Machine.execThrowTimeout point s
  | .stagedRecordLeft => Sys2Proof.Machine.execStagedRecordLeft s
  | .trackStateReport track => Sys2Proof.Machine.execTrackStateReport track s
  | .byteReceived p b => Sys2Proof.Machine.execByteReceived p b s
  | .powerLoss => Sys2Proof.Machine.execPowerLoss s

end Sys2Proof.Machine
end

