-- ==== Sys2Proof/Machine/Step.lean ====
section
/-! DEFINITION. Step.lean: one step of the block: the command at the front of the queue, or what an empty queue leaves to do. -/

namespace Sys2Proof.Machine

/-- On an empty queue the first event that is due is taken; then the end of a write whose 3 s are over, its outcome a free
value (log entry 12); else a hundredth of a millisecond passes (log entry 2). -/
def idleStep (s : State) : Host.Outcome State Fault Refusal :=
  match s.nextDue with
  | some i => exec i s
  | none =>
    if s.writeDue then
      exec (.commitWriteEnd (Config.storeReadsBack s.freeCount)) { s with freeCount := s.freeCount + 1 }
    else .next s.tick

/-- The command at the front of the queue is taken with the rest of the queue in place. -/
def step (s : State) : Host.Outcome State Fault Refusal :=
  match s.pending with
  | c :: rest => exec c { s with pending := rest }
  | [] => idleStep s

/-- The command a word spells, at the front of the queue. -/
def State.withFetchWord (s : State) (nbits w : Nat) : State :=
  match decodeTableWord nbits w with
  | some i => { s with pending := i :: s.pending }
  | none => s

end Sys2Proof.Machine
end

