-- ==== Sys2Proof/Machine/Wire.lean ====
section
/-! DEFINITION. Wire.lean: answers and notices as the bytes of their frames (R181, R188, R195). Names are numbered by their
places in the lists that define them (log entry 20); field forms R181 does not give
are those of log entries 10, 41, 42, 49, 50 and 62. -/

namespace Sys2Proof.Machine.Wire

/-! ### Field types (R181) -/

def e1 (n : Nat) : List Byte := [BitVec.ofNat 8 n]
def e2 (n : Nat) : List Byte := word2 n
def eTime (t : YardTime) : List Byte := word2 (t.toNat / 65536) ++ word2 (t.toNat % 65536)
/-- A field that is yes or no, set or clear, energised or released: one byte, 1 for yes, set, energised (log entry 49). -/
def eFlag (b : Bool) : List Byte := e1 b.toNat
def eOpt {α : Type} (f : α → List Byte) : Option α → List Byte
  | none => e1 0
  | some a => e1 1 ++ f a
def eList {α : Type} (f : α → List Byte) (l : List α) : List Byte := e1 l.length ++ (l.map f).flatten
def eCut (c : CutId) : List Byte := e2 c.roll ++ e1 c.frag
def eSensor (x : Sensor) : List Byte := e1 (inputOf x)
def posCode : Pos → Nat
  | .n => 0
  | .r => 1
def ePos (p : Pos) : List Byte := e1 (posCode p)
/-- A speed of 0 stands for "not measured". -/
def eSpeed (v : Option Nat) : List Byte := e2 (v.getD 0)
def ePort (p : Port) : List Byte := e1 (portNumber p)
def eTag (t : List Nat) : List Byte := eList e1 t
/-- Bits of a set, bit 0 first. -/
def bitsOf : List Bool → Nat
  | [] => 0
  | b :: bs => b.toNat + 2 * bitsOf bs
def ePorts (l : List Port) : List Byte := e1 (bitsOf (allPorts.map (fun p => l.contains p)))
def eRights (r : Rights) : List Byte := e1 (bitsOf [r.assign, r.close, r.relay])
def eMask (m : ClassMask) : List Byte := e1 (bitsOf [m.route, m.passage, m.point, m.track, m.hold, m.grant, m.fault])
def eReasons (l : List HoldReason) : List Byte := e2 (bitsOf (allReasons.map (fun r => l.contains r)))

/-! ### Names -/

def statusCode : Status → Nat
  | .done => 0 | .busy => 1 | .denied => 2 | .noRight => 3 | .badValue => 4 | .noSuch => 5 | .wrongMode => 6
  | .tooLate => 7 | .full => 8 | .conflict => 9
def modeCode : Mode → Nat
  | .setup => 0 | .standby => 1 | .active => 2 | .draining => 3
def modeCauseCode : ModeCause → Nat
  | .powerOn => 0 | .commit => 1 | .start => 2 | .stop => 3 | .drained => 4 | .yardClear => 5
def itemKindCode : ItemKind → Nat
  | .point => 0 | .track => 1 | .sensor => 2 | .yard => 3 | .none => 4
def conditionCode : Condition → Nat
  | .normal => 0 | .standing => 1 | .disturbed => 2
def directionCode : Direction → Nat
  | .forward => 0 | .backward => 1
def axleCauseCode : AxleCause → Nat
  | .overlengthLimit => 0 | .fragmentLimit => 1 | .noRoom => 2 | .noStagedCut => 3
def movingCode : MovingCause → Nat
  | .pass => 0 | .headChanged => 1 | .cleared => 2
def classCode : CutClass → Nat
  | .normal => 0 | .restricted => 1
def cutStateCode : CutState → Nat
  | .staged => 0 | .forming => 1 | .rolling => 2
def routeCode : RouteStatus → Nat
  | .asPlanned => 0 | .alternate => 1 | .diverted => 2 | .rerouted => 3
def pathEndCode : PathEnd → Nat
  | .track => 0 | .opened => 1
def stagedEventCode : StagedEvent → Nat
  | .staged => 0 | .rePlanned => 1 | .returned => 2 | .withdrawn => 3
/-- The causes in the order of R122, which lists all five; R111's table of four has another (log entry 20). -/
def divertCode : DivertCause → Nat
  | .catchUp => 0 | .late => 1 | .blocked => 2 | .diverged => 3 | .reroute => 4
def pointStateCode : PointState → Nat
  | .locked _ => 0 | .throwing _ _ => 1 | .fault _ => 2
def faultCode : FaultCause → Nat
  | .throwTimeout => 0 | .detectionLost => 1 | .detectionConflict => 2 | .runIn => 3 | .disagreesWithAxles => 4
def throwEndCode : ThrowEnd → Nat
  | .detected => 0 | .timeout => 1 | .conflict => 2
def pairCode : Pair → Nat
  | .alone .n => 0 | .alone .r => 1 | .neither => 2 | .both => 3
def pointEventCode : PointEvent → Nat
  | .throwStarted _ => 0 | .locked _ _ => 1 | .fault _ _ => 2 | .runIn _ => 3 | .acknowledged _ => 4 | .blocked => 5
  | .restored => 6 | .freeze => 7 | .unfreeze => 8
def trackStateCode : TrackState → Nat
  | .opened => 0 | .full => 1 | .closing => 2 | .closed => 3
def trackCauseCode : TrackCause → Nat
  | .axle => 0 | .close => 1 | .open => 2 | .intrusion => 3 | .committedZero => 4 | .arrival => 5 | .pull => 6
  | .capacity => 7 | .alternate => 8
/-- The kinds in the order of R160, which defines them; R164 lists them in another (log entry 20). -/
def offerCode : OfferKind → Nat
  | .passed => 0 | .copied => 1 | .returned => 2
def noteCode : NoteEvent → Nat
  | .copied => 0 | .passed => 1 | .recalled => 2
def blockCode : Block → Nat
  | .layoutStore => 0 | .sensorFrontEnd => 1 | .zoneTracker => 2 | .crestTracker => 3 | .rollList => 4
  | .routePlanner => 5 | .pointControl => 6
def loadCode : LoadState → Nat
  | .none => 0 | .opened => 1 | .writing => 2
def enterFieldCode : EnterField → Nat
  | .roll => 0 | .axles => 1 | .track => 2 | .cls => 3 | .tag => 4

/-! ### Compound fields -/

/-- An occupant: an optional cut, absent for UNIDENTIFIED. -/
def eOcc : Occupant → List Byte
  | .cut c => e1 1 ++ eCut c
  | .unidentified => e1 0
/-- A zone or target: 0 and a point, or 1 and a track. -/
def eTarget : Target → List Byte
  | .point n => e1 0 ++ e1 n
  | .track n => e1 1 ++ e1 n
def eParent : Parent → List Byte
  | .crest => e1 0
  | .point n => e1 n
def eStep (st : Step) : List Byte := e1 st.point ++ ePos st.pos
/-- The hold reason set: the reasons, the time of each in their order (log entry 10), the ports of URGENT, the empty set where it is
absent (log entry 62). -/
def eHolds (h : HoldSet) : List Byte :=
  eReasons (h.present.map (fun e => e.1)) ++ (h.present.map (fun e => eTime e.2)).flatten ++ ePorts h.urgent
def eSource : HoldSource → List Byte
  | .request code p => e1 0 ++ e1 code ++ ePort p
  | .block b => e1 1 ++ e1 (blockCode b)
def eGrant (g : Grant) : List Byte := e1 g.track ++ eRights g.rights ++ ePort g.creator
def eInbound (e : Inbound) : List Byte := eGrant e.grant ++ ePort e.sender ++ e1 (offerCode e.kind)
def ePlace : GrantPlace → List Byte
  | .table p k => ePort p ++ e1 0 ++ e1 k
  | .queue p k => ePort p ++ e1 1 ++ e1 k

/-- An item of READ LIST (R71). What a STAGED item also gives stands without a presence byte and is left out of a PLANNED item, the
accepted flag of a cut that is not RESTRICTED too (log entry 50). -/
def eListItem (i : ListItem) : List Byte :=
  e2 i.roll ++ eFlag i.staged.isSome ++ e2 i.axles ++ e1 i.track ++ e1 (classCode i.cls) ++ eOpt eTag i.tag ++
  ePort i.port ++
  (match i.staged with
   | some (d, st, acc) => e1 d ++ e1 (routeCode st) ++ (match acc with
     | some a => eFlag a
     | none => [])
   | none => [])

def eStepView (v : StepView) : List Byte := eStep v.step ++ eOpt (eOpt eTime) v.demand
def eHeadReport (h : HeadReport) : List Byte := eSensor h.sensor ++ eSpeed h.speed ++ eTime h.time
def eSpeedRec (r : SpeedRec) : List Byte := e1 r.point ++ e2 r.speed

/-- The fields of R99, in the order of its table; the path stands once, its steps as R121 gives them (log entry 50). -/
def eCutRec (r : CutRec) (steps : List StepView) : List Byte :=
  eCut r.id ++ e1 (cutStateCode r.state) ++ eFlag r.stalled ++ e1 (classCode r.cls) ++ eFlag r.accepted ++
  ePort r.port ++ e1 r.planned ++ eOpt eTag r.tag ++ e1 r.dest ++ e1 (routeCode r.status) ++ e2 r.expected ++
  e2 r.counted ++ e2 r.held ++ e2 r.arrived ++ eList e2 r.merged ++ eList eStepView steps ++
  e1 (pathEndCode r.pathEnd) ++ eOpt e1 r.frontier ++ eOpt eHeadReport r.head ++ eOpt eSpeedRec r.speed ++
  eOpt eTime r.released

/-- Position, target, fault cause and start of a point's state, each present where R123 says. -/
def statePos : PointState → Option Pos
  | .locked p => some p
  | _ => none
def stateTarget : PointState → Option Pos
  | .throwing t _ => some t
  | _ => none
def stateCause : PointState → Option FaultCause
  | .fault c => some c
  | _ => none
def stateStart : PointState → Option YardTime
  | .throwing _ t => some t
  | _ => none
def eCause (c : FaultCause) : List Byte := e1 (faultCode c)

def eItem (i : PointItem) : List Byte :=
  eParent i.parent ++ eTarget i.targetN ++ eTarget i.targetR ++ e2 i.toe ++ e2 i.lenN ++ e2 i.lenR

def eDemand (d : Demand) : List Byte := eCut d.cut ++ ePos d.pos ++ eOpt eTime d.toe

/-- The fields of R123 in the order of its table. -/
def ePointRec (r : PointRec) (item : Option PointItem) : List Byte :=
  (match item with
   | some i => eItem i
   | none => []) ++
  e1 (pointStateCode r.state) ++ eOpt ePos (statePos r.state) ++ eOpt ePos (stateTarget r.state) ++ eOpt ePos r.last ++
  eOpt eCause (stateCause r.state) ++ eFlag r.detN.level ++ eFlag r.detR.level ++ eOpt ePos r.blocked ++
  eFlag r.runIn ++ eOpt eTime (stateStart r.state) ++ eOpt e2 r.measured ++ e2 r.timing.allowance ++
  e2 r.timing.timeout ++ eOpt e2 (r.pendingTiming.map Timing.allowance) ++ eOpt e2 (r.pendingTiming.map Timing.timeout)

/-- What every POINT STATE notice of a point carries (R147). "The position or target" is two optional fields, both absent in FAULT
(log entry 50). -/
def eView (v : PointView) : List Byte :=
  e1 (pointStateCode v.state) ++ ePos v.lie ++ eOpt ePos (statePos v.state) ++ eOpt ePos (stateTarget v.state) ++
  eOpt ePos v.last ++ eOpt eCause (stateCause v.state) ++ eOpt ePos v.blocked ++ eFlag v.runIn

def dwellCode : Dwell → Nat
  | .stopped => 0 | .running _ => 1 | .expired _ => 2
/-- PROVEN, UNPROVEN (R39). -/
def provenCode : Bool → Nat
  | true => 0
  | false => 1
def dwellStart : Dwell → Option YardTime
  | .stopped => none
  | .running t => some t
  | .expired t => some t

def eSection (r : SectionRec) (sensors : List SensorView) : List Byte :=
  e1 r.point ++ (sensors.map (fun v => eSensor v.sensor ++ e1 (conditionCode v.condition) ++ e2 v.disturb)).flatten ++
  e1 (provenCode r.proven) ++ eList (fun e => eOcc e.occ ++ e2 e.count) r.occ ++ e1 (dwellCode r.dwell) ++
  eOpt eTime (dwellStart r.dwell) ++ eList (fun e => eCut e.cut ++ ePos e.outlet) r.exits

def eTrackRec (r : TrackRec) : List Byte :=
  e1 (trackStateCode r.state) ++ e2 r.fill ++ e2 r.capacity ++ eOpt e1 r.alternate ++ e2 r.committed ++
  eOpt eCut r.lastArrived ++ ePort r.holder ++ eFlag r.notifyCopy ++ eFlag r.notifyPass

/-! ### Answers (R195) -/

/-- The fields of an answer after its status. A slot is one byte in the answers of TAKE GRANT and of a RECALL GRANT that moves
the grant, and two, as any number alone, where the grant already stands in the Crest table (R168; log entry 41). The number of
a failed check is one byte (R11; log entry 42). The place a recalled grant came from is one byte, 0 for a table (R168; log
entry 49). The offset of a BAD VALUE is two bytes (R185; log entry 42). The floor behind the field of a BAD VALUE stands
without a presence byte (R65; log entry 50). READ PORT gives HUMP PROCEED as one byte, 1 energised and 0 released (R194; log
entry 49). -/
def answerFields : AnswerData → List Byte
  | .nothing => []
  | .offset n => e2 n
  | .check n k i => e1 n ++ e1 (itemKindCode k) ++ e1 i
  | .field f floor => e1 (enterFieldCode f) ++ (match floor with
    | some n => e2 n
    | none => [])
  | .number n => e2 n
  | .track t => e1 t
  | .roll n => e2 n
  | .planState staged => eFlag staged
  | .sensor x => eSensor x
  | .point n => e1 n
  | .cleared a b => e2 a ++ e2 b
  | .path steps => eList eStep steps
  | .pointState s => e1 (pointStateCode s)
  | .position p => ePos p
  | .pair p => e1 (pairCode p)
  | .blocked s lie served => e1 (pointStateCode s) ++ ePos lie ++ eFlag served
  | .restored s lie => e1 (pointStateCode s) ++ ePos lie
  | .timing active => eFlag (!active)
  | .trackState s => e1 (trackStateCode s)
  | .closing s n => e1 (trackStateCode s) ++ e2 n
  | .fills a b => e2 a ++ e2 b
  | .taken slot t rights k p => e1 slot ++ e1 t ++ eRights rights ++ e1 (offerCode k) ++ ePort p
  | .recalled slot p fromTable => e1 slot ++ ePort p ++ eFlag (!fromTable)
  | .holds h => eHolds h
  | .unidentified n k p => e2 n ++ e2 k ++ e1 p
  | .disturbed n x => e2 n ++ eSensor x
  | .masks a b => eMask a ++ eMask b
  | .list floor n staged items => e2 floor ++ e2 n ++ eFlag staged ++ eList eListItem items
  | .cut r steps => eCutRec r steps
  | .pointRec r item lie pair effective freeze head empty proven =>
    ePointRec r item ++ ePos lie ++ e1 (pairCode pair) ++ e2 effective ++ eFlag freeze ++ eOpt eDemand head ++
    eFlag empty ++ eFlag proven
  | .trackRec r close assign => eTrackRec r ++ eOpt ePlace close ++ ePorts assign
  | .sectionRec r sensors => eSection r sensors
  | .port p w wa u a n o d m i mode load owner h relay t =>
    ePort p ++ eFlag w ++ eFlag wa ++ eFlag u ++ e2 a ++ e2 n ++ eFlag o ++ e2 d ++ eMask m ++ e2 i ++
    e1 (modeCode mode) ++ e1 (loadCode load) ++ eOpt ePort owner ++ eHolds h ++ eFlag relay ++ eTime t
  | .grants slots inbound => (slots.map (eOpt eGrant)).flatten ++ eList eInbound inbound

def answerBytes (a : Answer) : List Byte :=
  frameBytes 3 a.tag a.code (e1 (statusCode a.reply.status) ++ answerFields a.reply.data)

/-! ### Notices (R188) -/

/-- A tracking fault. The section left is a point in one byte, 0 for the crest (R61, R97; log entry 41). The cause and the short
cut of an UNIDENTIFIED AXLE are optional fields in every notice of that kind, the Zone Tracker's too, where both are absent (log
entry 50). -/
def eFault : TrackingFault → List Byte
  | .sensorDisturbed x => e1 0 ++ eSensor x
  | .unidentifiedAxle x d left cause short =>
    e1 1 ++ eSensor x ++ e1 (directionCode d) ++ e1 (left.getD 0) ++ eOpt (fun c => e1 (axleCauseCode c)) cause ++
    eOpt (fun e => eCut e.1 ++ e2 e.2) short
  | .splitCut x n c register taken => e1 2 ++ eSensor x ++ e1 n ++ eCut c ++ ePos register ++ ePos taken
  | .crowded x n a t => e1 3 ++ eSensor x ++ e1 n ++ eOcc a ++ eOcc t
  | .trackUnderrun x t => e1 4 ++ eSensor x ++ e1 t

/-- What a POINT STATE notice carries for its event. A recovery LOCKED has no measured time and its SLOW flag is 0 (R147; log entry
41). -/
def eEvent : PointEvent → List Byte
  | .throwStarted t => eTime t
  | .locked m slow => eOpt e2 m ++ eFlag slow
  | .fault ended axles =>
    eOpt (fun e => e1 (throwEndCode e)) ended ++ eOpt (fun e => eCut e.cut ++ ePos e.outlet) axles
  | .runIn c => eCut c
  | .acknowledged p => e1 (pairCode p)
  | _ => []

/-- The fields of a notice after its yard time. A FREEZE or UNFREEZE notice carries the absent point and the event alone (R147;
log entry 41). CUT MERGED carries the roll as an optional field, absent for NO ROLL; CUT PASSAGE the frontier as an optional
field of one byte (R97, R122; log entry 42); CUT FRAGMENT the low 16 bits of the gap (R97; log entry 43). UNACCEPTED is a flag that
is always sent (log entry 49). The destination given up by a merge and the outlet of CUT DIVERTED are optional fields; the route of
CUT STAGED, what TRACK STATE carries for ARRIVAL and PULL, and what a GRANT NOTE carries for RECALLED stand without a presence byte
(log entry 50). HOLD STATE always carries two sets of ports, added and then removed (R179; log entry 62); HUMP PROCEED is one byte,
1 energised and 0 released (log entry 49). -/
def noticeFields : NoticeBody → List Byte
  | .mode now before cause => e1 (modeCode now) ++ eOpt (fun m => e1 (modeCode m)) before ++ e1 (modeCauseCode cause)
  | .sensorState x now before n => eSensor x ++ e1 (conditionCode now) ++ e1 (conditionCode before) ++ e2 n
  | .trackingFault f => eFault f
  | .cutStalled n o k => e1 n ++ eOcc o ++ e2 k
  | .cutMoving n o c => e1 n ++ eOcc o ++ e1 (movingCode c)
  | .cutStaged c e x t cls tag p route =>
    eCut c ++ e1 (stagedEventCode e) ++ e2 x ++ e1 t ++ e1 (classCode cls) ++ eOpt eTag tag ++ ePort p ++
    (match route with
     | some (d, st, n) => e1 d ++ e1 (routeCode st) ++ e2 n
     | none => [])
  | .cutReleased c x d st cls un tag v t =>
    eCut c ++ e2 x ++ e1 d ++ e1 (routeCode st) ++ e1 (classCode cls) ++ eFlag un ++ eOpt eTag tag ++ eSpeed v ++ eTime t
  | .cutMerged c roll given x n un => eCut c ++ eOpt e2 roll ++ eOpt e1 given ++ e2 x ++ e2 n ++ eFlag un
  | .cutFragment c n f x d gap => eCut c ++ e2 n ++ eCut f ++ e2 x ++ e1 d ++ e2 gap
  | .cutDiverted c cause st old new status n pe =>
    eCut c ++ e1 (divertCode cause) ++ eOpt eStep st ++ e1 old ++ e1 new ++ e1 (routeCode status) ++ e2 n ++
    e1 (pathEndCode pe)
  | .cutArrived c d h a x merged reached =>
    eCut c ++ e1 d ++ e2 h ++ e2 a ++ e2 x ++ eList e2 merged ++ eFlag reached
  | .cutPassage c x v left zone f t =>
    eCut c ++ eSensor x ++ e1 0 ++ eSpeed v ++ eOpt eStep left ++ eTarget zone ++ eOpt e1 f ++ eTime t
  | .pointState n e view =>
    eOpt e1 n ++ e1 (pointEventCode e) ++ (match view with
    | some v => eView v
    | none => []) ++ eEvent e
  | .trackState t cause now before fill cap n alt arrival fb =>
    e1 t ++ e1 (trackCauseCode cause) ++ e1 (trackStateCode now) ++ e1 (trackStateCode before) ++ e2 fill ++ e2 cap ++
    e2 n ++ eOpt e1 alt ++ (match arrival with
    | some (c, k) => eCut c ++ e2 k
    | none => []) ++ (match fb with
    | some k => e2 k
    | none => [])
  | .holdState h raised cleared added removed relay switched mode src =>
    eHolds h ++ eReasons raised ++ eReasons cleared ++ ePorts added ++ ePorts removed ++ eFlag relay ++ eFlag switched ++
    e1 (modeCode mode) ++ eSource src
  | .grantOffer goal kind g sender n =>
    ePort goal ++ e1 (offerCode kind) ++ e1 g.track ++ eRights g.rights ++ ePort g.creator ++ ePort sender ++ e2 n
  | .grantNote goal e t r acting goes fromTable =>
    ePort goal ++ e1 (noteCode e) ++ e1 t ++ eRights r ++ ePort acting ++ ePort goes ++ (match fromTable with
    | some b => eFlag (!b)
    | none => [])
  | .overrun n => e2 n

/-- A NOTICE frame: tag 0, and the yard time first (R181). -/
def noticeBytes (n : Notice) : List Byte :=
  frameBytes 4 0 n.body.classCode.2 (eTime n.time ++ noticeFields n.body)

/-- What the transmitter of a port sends for the frame on its line. -/
def lineBytes : OutFrame → List Byte
  | .answer a => answerBytes a
  | .notice n => noticeBytes n

/-! ### Requests, as a master sends them -/

def eYardItem (i : YardItem) : List Byte :=
  eOpt e2 i.early ++ eOpt e2 i.separation ++ eOpt e2 i.standing ++ eOpt e2 i.disturbance ++ eOpt e2 i.dwell

def ePointItem (i : PointItem) : List Byte :=
  e1 i.num ++ eItem i ++ eOpt e2 i.allowance ++ eOpt e2 i.timeout

def eTrackItem (i : TrackItem) : List Byte :=
  e1 i.num ++ e2 i.capacity ++ eOpt e1 i.alternate ++ e1 i.holder ++ eOpt e1 i.notifyCopy ++ eOpt e1 i.notifyPass

def eEnter (a : EnterArgs) : List Byte := e2 a.roll ++ e2 a.axles ++ e1 a.track ++ e1 a.cls ++ eOpt eTag a.tag

def eAck : AckTarget → List Byte
  | .point n => e1 0 ++ e1 n
  | .sensor i => e1 1 ++ e1 i

/-- A request as it stands in a frame: its port, whether the frame is URGENT, tag, code and payload. -/
structure Sent where
  port : Port
  urgent : Bool
  tag : Nat
  code : Nat
  payload : List Byte
  deriving DecidableEq, Repr

/-- The frame of a request whose fields fit (R181, R183); none for what no frame stands for. -/
def requestFrame : Instr → Option Sent
  | .readList p t (.fits n) => some ⟨p, false, t, 1, e2 n⟩
  | .readCut p t (.fits c) => some ⟨p, false, t, 2, eCut c⟩
  | .readPoint p t (.fits n) => some ⟨p, false, t, 3, e1 n⟩
  | .readTrack p t (.fits n) => some ⟨p, false, t, 4, e1 n⟩
  | .readSection p t (.fits n) => some ⟨p, false, t, 5, e1 n⟩
  | .readPort p t (.fits _) => some ⟨p, false, t, 6, []⟩
  | .readGrants p t (.fits _) => some ⟨p, false, t, 7, []⟩
  | .setMask p t (.fits b) => some ⟨p, false, t, 8, e1 b⟩
  | .portReset p t (.fits _) => some ⟨p, false, t, 9, []⟩
  | .releaseHump p t (.fits _) => some ⟨p, false, t, 10, []⟩
  | .holdNow p t u (.fits _) => some ⟨p, u, t, 11, []⟩
  | .enterCut p t (.fits a) => some ⟨p, false, t, 16, eEnter a⟩
  | .amendCut p t (.fits a) => some ⟨p, false, t, 17, e2 a.roll ++ e1 a.track⟩
  | .withdrawCut p t (.fits n) => some ⟨p, false, t, 18, e2 n⟩
  | .layoutBegin p t (.fits _) => some ⟨p, false, t, 24, []⟩
  | .layoutPoint p t (.fits i) => some ⟨p, false, t, 25, ePointItem i⟩
  | .layoutTrack p t (.fits i) => some ⟨p, false, t, 26, eTrackItem i⟩
  | .layoutSensor p t (.fits i) => some ⟨p, false, t, 27, e1 i.input ++ e1 i.filter ++ e2 i.spacing⟩
  | .layoutYard p t (.fits i) => some ⟨p, false, t, 28, eYardItem i⟩
  | .layoutCommit p t (.fits _) => some ⟨p, false, t, 29, []⟩
  | .layoutAbandon p t (.fits _) => some ⟨p, false, t, 30, []⟩
  | .startHumping p t (.fits _) => some ⟨p, false, t, 32, []⟩
  | .stopHumping p t (.fits _) => some ⟨p, false, t, 33, []⟩
  | .yardClear p t (.fits _) => some ⟨p, false, t, 34, []⟩
  | .holdHump p t (.fits _) => some ⟨p, false, t, 35, []⟩
  | .acceptNext p t (.fits n) => some ⟨p, false, t, 36, e2 n⟩
  | .blockPoint p t (.fits a) => some ⟨p, false, t, 40, e1 a.point ++ e1 a.position⟩
  | .restorePoint p t (.fits n) => some ⟨p, false, t, 41, e1 n⟩
  | .freezePoints p t u (.fits _) => some ⟨p, u, t, 42, []⟩
  | .unfreeze p t (.fits _) => some ⟨p, false, t, 43, []⟩
  | .setPointTiming p t (.fits a) => some ⟨p, false, t, 44, e1 a.point ++ e2 a.allowance ++ e2 a.timeout⟩
  | .ackFault p t (.fits a) => some ⟨p, false, t, 45, eAck a⟩
  | .ackTracking p t (.fits _) => some ⟨p, false, t, 46, []⟩
  | .ackIntrusion p t (.fits _) => some ⟨p, false, t, 47, []⟩
  | .clearSection p t (.fits n) => some ⟨p, false, t, 48, e1 n⟩
  | .rerouteCut p t (.fits a) => some ⟨p, false, t, 49, eCut a.cut ++ e1 a.track⟩
  | .recallGrant p t (.fits n) => some ⟨p, false, t, 50, e1 n⟩
  | .speedReport p t (.fits a) => some ⟨p, false, t, 56, eCut a.cut ++ e1 a.point ++ e2 a.speed⟩
  | .closeTrack p t (.fits n) => some ⟨p, false, t, 64, e1 n⟩
  | .openTrack p t (.fits n) => some ⟨p, false, t, 65, e1 n⟩
  | .pullRecord p t (.fits a) => some ⟨p, false, t, 66, e1 a.track ++ e2 a.value⟩
  | .setCapacity p t (.fits a) => some ⟨p, false, t, 67, e1 a.track ++ e2 a.value⟩
  | .setAlternate p t (.fits a) => some ⟨p, false, t, 68, e1 a.track ++ eOpt e1 a.alternate⟩
  | .copyGrant p t (.fits a) => some ⟨p, false, t, 72, e1 a.slot ++ e1 a.target ++ e1 a.rights⟩
  | .passGrant p t (.fits a) => some ⟨p, false, t, 73, e1 a.slot ++ e1 a.target⟩
  | .takeGrant p t (.fits n) => some ⟨p, false, t, 74, e1 n⟩
  | .refuseGrant p t (.fits _) => some ⟨p, false, t, 75, []⟩
  | .dropGrant p t (.fits n) => some ⟨p, false, t, 76, e1 n⟩
  | _ => none

end Sys2Proof.Machine.Wire
end

