-- ==== Sys2Proof/Safety.lean ====
section
/-! DEFINITION. Safety.lean: the words the claims use: what holds between events, when a request is handed on at once, and what
its answer does to its port. -/

namespace Sys2Proof.Machine

/-- The track items of a layout stand in ascending number, one for each track (R9). -/
abbrev Layout.tracksAscend (l : Layout) : Prop := (l.tracks.map TrackItem.num).Pairwise (· < ·)

/-- The initial grants of a layout fit (R12, checks 3 and 11): one item for each track, in ascending number, each with a holder
that has a grant table, and at most 16 tracks of one holder. -/
def Layout.grantsFit (l : Layout) : Prop :=
  l.tracksAscend ∧ (∀ i ∈ l.tracks, i.holder = 1 ∨ i.holder = 2 ∨ i.holder = 4) ∧
  ∀ h, (l.tracks.filter (fun i => i.holder == h)).length ≤ 16

/-- The point record after pending timing that may become active has become so: that of a LOCKED point (R145). -/
def PointRec.timed (r : PointRec) : PointRec :=
  match r.state, r.pendingTiming with
  | .locked _, some y => { r with timing := y, pendingTiming := none }
  | _, _ => r

namespace State

/-- HUMP PROCEED stands as R173 judges it. -/
abbrev relayRight (s : State) : Prop := s.relay = relayJudgement s.mode s.holds

/-- What holds between events: no claim is left with the Hold Unit (R172), HUMP PROCEED stands as judged (R173), and DRAINING
has a record to drain (R20). -/
abbrev Settled (s : State) : Prop :=
  s.holdInbox = [] ∧ s.relayRight ∧ (s.mode = .draining → s.hasMoving = true)

/-- A request that arrives at a port now is handed on at once: the supply is on, the working slot is empty, no ordinary
answer waits (R184), and no urgent frame stands that may be taken ahead of it (R186). -/
abbrev ready (s : State) (p : Port) : Prop :=
  s.powered = true ∧ (s.ports.get p).working = none ∧ (s.ports.get p).hasAnswer .ordinary = false ∧
    (s.ports.get p).readyUrgent = none

/-- An URGENT frame that arrives at a port now is taken at once: the supply is on, the urgent slot is empty and no urgent
answer waits (R186). -/
abbrev readyUrgent (s : State) (p : Port) : Prop :=
  s.powered = true ∧ (s.ports.get p).urgent = none ∧ (s.ports.get p).hasAnswer .urgent = false

/-- The state with an ordinary answer queued at a port, its waiting request moved up to the working slot, and every free line
started (R184, R187). -/
def served (s : State) (p : Port) (tag code : Nat) (r : Reply) : State :=
  (s.modPort p (fun q => { q with
    answers := q.answers ++ [⟨.ordinary, ⟨tag, code, r⟩⟩],
    working := q.waiting.map (fun c => ⟨c, false, false⟩), waiting := none })).startLines

/-- An answer is on its port's line or in its answer queue. -/
def Answered (s : State) (p : Port) (tag code : Nat) (r : Reply) : Prop :=
  (s.ports.get p).line = some (.answer ⟨tag, code, r⟩) ∨
    ∃ k, (⟨k, ⟨tag, code, r⟩⟩ : QueuedAnswer) ∈ (s.ports.get p).answers

/-- A notice has been given to all four ports (R189): each holds it among those it has still to take. -/
def Gave (s : State) (b : NoticeBody) : Prop := ∀ p : Port, (⟨s.now, b⟩ : Notice) ∈ (s.ports.get p).given

/-- Everything but the ports is the same: no command but a read or a refusal leaves so much. -/
def SameYard (s t : State) : Prop := t = { s with ports := t.ports }

/-- What a staging attempt made in `s`, in ACTIVE with no STAGED record, leaves in `t` (R73 to R76). With no entry LIST EMPTY is
raised. Else the head entry goes to its track if OPEN, or to that track's alternate if OPEN; with neither NEXT UNROUTABLE is raised;
with 24 records or too few free demand entries CAPACITY is raised; else the entry leaves the list, its record is STAGED, its demands
are inserted, and the three reasons are cleared. -/
def stagingLeaves (s t : State) : Prop :=
  (s.planned = [] → t.planned = [] ∧ t.cuts = s.cuts ∧ t.demands = s.demands ∧ t.tracks = s.tracks ∧
    t.holds.has .listEmpty = true ∧ t.holds.has .nextUnroutable = false ∧ t.relay = false) ∧
  (∀ e rest, s.planned = e :: rest →
    let alt := (s.track? e.track).bind TrackRec.alternate
    t.holds.has .listEmpty = false ∧
    (s.trackOpen e.track = false → (∀ a, alt = some a → s.trackOpen a = false) →
      t.planned = s.planned ∧ t.cuts = s.cuts ∧ t.demands = s.demands ∧ t.tracks = s.tracks ∧
      t.holds.has .nextUnroutable = true ∧ t.relay = false) ∧
    (∀ dest status,
      (s.trackOpen e.track = true ∧ dest = e.track ∧ status = .asPlanned) ∨
        (s.trackOpen e.track = false ∧ alt = some dest ∧ s.trackOpen dest = true ∧ status = .alternate) →
      let path := s.layout.pathTo dest
      t.holds.has .nextUnroutable = false ∧
      (24 ≤ s.cuts.length ∨ s.poolFree < path.length →
        t.planned = s.planned ∧ t.cuts = s.cuts ∧ t.demands = s.demands ∧ t.holds.has .capacity = true) ∧
      (s.cuts.length < 24 → path.length ≤ s.poolFree →
        t.planned = rest ∧ t.holds.has .capacity = false ∧
        (t.track? dest).map TrackRec.committed = (s.track? dest).map (fun r => r.committed + 1) ∧
        t.demands = (s.insertDemands ⟨e.roll, 0⟩ path).demands ∧
        (e.cls = .restricted → t.holds.has .nextRestricted = true) ∧
        t.cuts = s.cuts ++
          [{ id := ⟨e.roll, 0⟩, state := .staged, stalled := false, cls := e.cls, accepted := false, port := e.port,
             planned := e.track, tag := e.tag, dest := dest, status := status, expected := e.axles, counted := 0,
             held := 0, arrived := 0, merged := [], path := path, pathEnd := .track, frontier := some 0,
             head := none, speed := none, released := none }])))

/-- What a pass with attribution `a` on the side of section `n`, whose record in `s` is `sec`, makes of that section's dwell timer
and of a stall, its list in `t` being the new one (R58, R60). The timer stops when the list is empty; it starts when it was stopped,
and starts again at the time of the event when the pass is the head occupant's or the head has changed. A section that so leaves
EXPIRED brings CUT MOVING; the cut's stalled mark goes unless another section is EXPIRED with it at its head, and STALL with the last
EXPIRED section. -/
def passTimes (s : State) (n : Nat) (sec : SectionRec) (a : Occupant) (t : State) : Prop :=
  ∃ z, t.sectionAt? n = some z ∧
    z.dwell = (if z.occ = [] then .stopped
      else if sec.dwell = .stopped ∨ headOcc sec.occ = some a ∨ headOcc z.occ ≠ headOcc sec.occ then .running s.now
      else sec.dwell) ∧
    ((∀ y, sec.dwell ≠ .expired y) ∨ z.dwell = sec.dwell → t.cuts = s.cuts) ∧
    (∀ y o, sec.dwell = .expired y → z.dwell ≠ sec.dwell → headOcc sec.occ = some o →
      let stands := ∃ x ∈ t.sections, (∃ w, x.dwell = .expired w) ∧ headOcc x.occ = some o
      t.Gave (.cutMoving n o (if o = a then .pass else .headChanged)) ∧
      (∀ c, o = .cut c → ¬ stands → t.cuts = s.cuts.map (fun x => if x.id = c then { x with stalled := false } else x)) ∧
      (o = .unidentified ∨ stands → t.cuts = s.cuts) ∧
      ((∀ x ∈ t.sections, ∀ w, x.dwell ≠ .expired w) →
        (⟨.block .zoneTracker, .clear .stall⟩ : HoldClaim) ∈ t.holdInbox))

/-- A port's answer queue keeps to R187: at most one ordinary answer, one urgent answer and two BUSY answers; and no ordinary
answer waits while a working request is taken (R184). -/
def answersBounded (s : State) : Prop :=
  ∀ p : Port,
    ((s.ports.get p).answers.filter (fun a => a.kind == .ordinary)).length ≤ 1 ∧
    ((s.ports.get p).answers.filter (fun a => a.kind == .urgent)).length ≤ 1 ∧
    ((s.ports.get p).answers.filter (fun a => a.kind == .busy)).length ≤ 2 ∧
    ((s.ports.get p).working.any Working.taken = true → (s.ports.get p).hasAnswer .ordinary = false)

/-- A notice queue holds at most 64 notices, and a discard count at most 65535 (R180, R189). -/
def noticesBounded (s : State) : Prop :=
  ∀ p : Port, (s.ports.get p).notices.length ≤ 64 ∧ (s.ports.get p).discards ≤ 65535

/-- The hold set is in its one form: the reasons present in the order of their table, each once, the ports in order, URGENT
present exactly while a port stands for it (R171). -/
def holdsRight (s : State) : Prop :=
  s.holds.present = allReasons.filterMap (fun r => (s.holds.timeOf r).map (fun t => (r, t))) ∧
  s.holds.urgent = allPorts.filter (fun p => s.holds.urgent.contains p) ∧
  s.holds.has .urgent = !s.holds.urgent.isEmpty ∧ s.holdInbox = []

/-- The grants for a track that carry CLOSE, in every table and every inbound queue (R160). -/
def closeGrants (s : State) (n : Nat) : Nat :=
  (allPorts.map (fun p =>
    ((s.custody.get p).slots.filter (fun g => match g with
      | some g => g.track == n && g.rights.close
      | none => false)).length +
    ((s.custody.get p).inbound.filter (fun e => e.grant.track == n && e.grant.rights.close)).length)).sum

/-- Custody is right (R160): each table keeps its 16 slots, the Speed port none, and each queue to 4 entries; no table holds two
grants for one track; each track of the active layout has exactly one grant carrying CLOSE. The stored copy and the load keep
what this needs of the next layout: its tracks in ascending number, a holder that has a table, at most 16 tracks a holder (R12). -/
def custodyRight (s : State) : Prop :=
  (∀ p : Port, (s.custody.get p).slots.length = (if p = .speed then 0 else 16) ∧
    (s.custody.get p).inbound.length ≤ 4 ∧
    ∀ n, ((s.custody.get p).slots.filter (fun g => match g with
      | some g => g.track == n
      | none => false)).length ≤ 1) ∧
  (∀ l, s.active = some l → ∀ i ∈ l.tracks, s.closeGrants i.num = 1) ∧
  (s.store.valid = true → s.store.layout.grantsFit) ∧
  (∀ o l, s.load = .opened o l → l.tracksAscend) ∧
  (∀ o l since, s.load = .writing o l since → l.grantsFit)

/-- A drive output is on only while its point is THROWING toward that side (R130). -/
def drivesRight (s : State) : Prop :=
  ∀ r ∈ s.points,
    (r.driveN = true → ∃ t, r.state = .throwing .n t) ∧ (r.driveR = true → ∃ t, r.state = .throwing .r t)

end State

end Sys2Proof.Machine
end

