-- ==== Sys2Proof/WellFormed.lean ====
section
/-! DEFINITION. WellFormed.lean: the commands that can occur: every operand fits its encoding (R181) or names an input, a
channel or an object that exists on the hardware (R1). Values the rules judge are not judged here. -/

namespace Sys2Proof

def byteOk (n : Nat) : Bool := n < 256
def wordOk (n : Nat) : Bool := n < 65536
def optOk {α : Type} (ok : α → Bool) : Option α → Bool
  | some a => ok a
  | none => true

def CutId.ok (c : CutId) : Bool := wordOk c.roll && byteOk c.frag

/-- An offset lies within a payload or at its end (R181, R185). -/
def Fields.ok {α : Type} (ok : α → Bool) : Fields α → Bool
  | .fits a => ok a
  | .misfit k => k ≤ 1024

def anyFields (_ : Unit) : Bool := true

def Parent.ok : Parent → Bool
  | .crest => true
  | .point n => 1 ≤ n && byteOk n

def Target.ok : Target → Bool
  | .point n => byteOk n
  | .track n => byteOk n

def PointItem.ok (i : PointItem) : Bool :=
  byteOk i.num && i.parent.ok && i.targetN.ok && i.targetR.ok && wordOk i.toe && wordOk i.lenN && wordOk i.lenR &&
  optOk wordOk i.allowance && optOk wordOk i.timeout

def TrackItem.ok (i : TrackItem) : Bool :=
  byteOk i.num && wordOk i.capacity && optOk byteOk i.alternate && byteOk i.holder && optOk byteOk i.notifyCopy &&
  optOk byteOk i.notifyPass

def SensorItem.ok (i : SensorItem) : Bool := byteOk i.input && byteOk i.filter && wordOk i.spacing

def YardItem.ok (i : YardItem) : Bool :=
  optOk wordOk i.early && optOk wordOk i.separation && optOk wordOk i.standing && optOk wordOk i.disturbance &&
  optOk wordOk i.dwell

/-- A tag as it can be sent: a length byte and characters 32 to 126 (R181, R185). -/
def tagOk (t : List Nat) : Bool := byteOk t.length && t.all (fun c => 32 ≤ c && c ≤ 126)

def EnterArgs.ok (a : EnterArgs) : Bool :=
  wordOk a.roll && wordOk a.axles && byteOk a.track && byteOk a.cls && optOk tagOk a.tag
def AmendArgs.ok (a : AmendArgs) : Bool := wordOk a.roll && byteOk a.track
def BlockArgs.ok (a : BlockArgs) : Bool := byteOk a.point && byteOk a.position
def TimingArgs.ok (a : TimingArgs) : Bool := byteOk a.point && wordOk a.allowance && wordOk a.timeout
def AckTarget.ok : AckTarget → Bool
  | .point n => byteOk n
  | .sensor i => byteOk i
def RerouteArgs.ok (a : RerouteArgs) : Bool := a.cut.ok && byteOk a.track
def SpeedArgs.ok (a : SpeedArgs) : Bool := a.cut.ok && byteOk a.point && wordOk a.speed
def TrackValueArgs.ok (a : TrackValueArgs) : Bool := byteOk a.track && wordOk a.value
def AlternateArgs.ok (a : AlternateArgs) : Bool := byteOk a.track && optOk byteOk a.alternate
def CopyArgs.ok (a : CopyArgs) : Bool := byteOk a.slot && byteOk a.target && byteOk a.rights
def PassArgs.ok (a : PassArgs) : Bool := byteOk a.slot && byteOk a.target

/-- Points P1 to P63 exist (R1). -/
def pointOk (n : Nat) : Bool := 1 ≤ n && n ≤ 63
/-- Tracks T1 to T64 exist (R5). -/
def trackOk (n : Nat) : Bool := 1 ≤ n && n ≤ 64
/-- Sensor inputs 1 to 127 exist (R1). -/
def inputOk (n : Nat) : Bool := 1 ≤ n && n ≤ 127
def Sensor.ok : Sensor → Bool
  | .k => true
  | .out n _ => pointOk n

/-- The codes of R183. -/
def knownCode (c : Nat) : Bool :=
  (1 ≤ c && c ≤ 11) || (16 ≤ c && c ≤ 18) || (24 ≤ c && c ≤ 30) || (32 ≤ c && c ≤ 36) || (40 ≤ c && c ≤ 50) ||
  c == 56 || (64 ≤ c && c ≤ 68) || (72 ≤ c && c ≤ 76)

/-- The codes an URGENT frame may carry (R186). -/
def urgentCode (c : Nat) : Bool := c == 11 || c == 42

/-- The command can occur. -/
def Instr.wellFormed : Instr → Bool
  | .powerOn => true
  | .readList _ tag f => byteOk tag && f.ok wordOk
  | .readCut _ tag f => byteOk tag && f.ok CutId.ok
  | .readPoint _ tag f => byteOk tag && f.ok byteOk
  | .readTrack _ tag f => byteOk tag && f.ok byteOk
  | .readSection _ tag f => byteOk tag && f.ok byteOk
  | .readPort _ tag f => byteOk tag && f.ok anyFields
  | .readGrants _ tag f => byteOk tag && f.ok anyFields
  | .setMask _ tag f => byteOk tag && f.ok byteOk
  | .portReset _ tag f => byteOk tag && f.ok anyFields
  | .releaseHump _ tag f => byteOk tag && f.ok anyFields
  | .holdNow _ tag _ f => byteOk tag && f.ok anyFields
  | .enterCut _ tag f => byteOk tag && f.ok EnterArgs.ok
  | .amendCut _ tag f => byteOk tag && f.ok AmendArgs.ok
  | .withdrawCut _ tag f => byteOk tag && f.ok wordOk
  | .layoutBegin _ tag f => byteOk tag && f.ok anyFields
  | .layoutPoint _ tag f => byteOk tag && f.ok PointItem.ok
  | .layoutTrack _ tag f => byteOk tag && f.ok TrackItem.ok
  | .layoutSensor _ tag f => byteOk tag && f.ok SensorItem.ok
  | .layoutYard _ tag f => byteOk tag && f.ok YardItem.ok
  | .layoutCommit _ tag f => byteOk tag && f.ok anyFields
  | .layoutAbandon _ tag f => byteOk tag && f.ok anyFields
  | .commitWriteEnd _ => true
  | .startHumping _ tag f => byteOk tag && f.ok anyFields
  | .stopHumping _ tag f => byteOk tag && f.ok anyFields
  | .yardClear _ tag f => byteOk tag && f.ok anyFields
  | .holdHump _ tag f => byteOk tag && f.ok anyFields
  | .acceptNext _ tag f => byteOk tag && f.ok wordOk
  | .blockPoint _ tag f => byteOk tag && f.ok BlockArgs.ok
  | .restorePoint _ tag f => byteOk tag && f.ok byteOk
  | .freezePoints _ tag _ f => byteOk tag && f.ok anyFields
  | .unfreeze _ tag f => byteOk tag && f.ok anyFields
  | .setPointTiming _ tag f => byteOk tag && f.ok TimingArgs.ok
  | .ackFault _ tag f => byteOk tag && f.ok AckTarget.ok
  | .ackTracking _ tag f => byteOk tag && f.ok anyFields
  | .ackIntrusion _ tag f => byteOk tag && f.ok anyFields
  | .clearSection _ tag f => byteOk tag && f.ok byteOk
  | .rerouteCut _ tag f => byteOk tag && f.ok RerouteArgs.ok
  | .recallGrant _ tag f => byteOk tag && f.ok byteOk
  | .speedReport _ tag f => byteOk tag && f.ok SpeedArgs.ok
  | .closeTrack _ tag f => byteOk tag && f.ok byteOk
  | .openTrack _ tag f => byteOk tag && f.ok byteOk
  | .pullRecord _ tag f => byteOk tag && f.ok TrackValueArgs.ok
  | .setCapacity _ tag f => byteOk tag && f.ok TrackValueArgs.ok
  | .setAlternate _ tag f => byteOk tag && f.ok AlternateArgs.ok
  | .copyGrant _ tag f => byteOk tag && f.ok CopyArgs.ok
  | .passGrant _ tag f => byteOk tag && f.ok PassArgs.ok
  | .takeGrant _ tag f => byteOk tag && f.ok byteOk
  | .refuseGrant _ tag f => byteOk tag && f.ok anyFields
  | .dropGrant _ tag f => byteOk tag && f.ok byteOk
  | .unknownRequest _ tag code urgent =>
    byteOk tag && byteOk code && (if urgent then !urgentCode code else !knownCode code)
  | .requestFrameReceived _ tag code d => byteOk tag && byteOk code && decide (d.length ≤ 1024)
  | .urgentFrameReceived _ tag code d => byteOk tag && byteOk code && decide (d.length ≤ 1024)
  | .frameDiscarded _ => true
  | .interByteTimeout _ => true
  | .lineBreakStart _ => true
  | .lineBreakReset _ => true
  | .frameSent _ => true
  | .noticeGiven _ => true
  | .headRawEdge input _ _ => inputOk input
  | .filteredEdge x _ => x.ok
  | .standingTimerExpiry x _ => x.ok
  | .gapTimerExpiry => true
  | .dwellTimerExpiry n => pointOk n
  | .pointEvaluation n => pointOk n
  | .diversionRequest c n _ _ => c.ok && pointOk n
  | .detectionInputEdge n _ _ => pointOk n
  | .detectionEvent n => pointOk n
  | .throwTimeout n => pointOk n
  | .stagedRecordLeft => true
  | .trackStateReport t => trackOk t
  | .byteReceived _ _ => true
  | .powerLoss => true

end Sys2Proof
end

