-- ==== Sys2Proof/Certificates/Slice0/Obligations.lean ====
section
/-! DEFINITION. Obligations.lean: the statements about the PX-63 for the provers. `s.ready p` says that a request arriving at
port `p` is handed on at once (R184); `s.served p tag code r` is `s` with the ordinary answer `r` queued at `p`, the waiting
request moved up and free lines started; `s.Settled` holds between events (Safety.lean). -/

open Sys2Proof Sys2Proof.Machine

/-! ### Steps and reset -/

/-- A command at the front of the queue is what the step runs, with the rest of the queue in place. -/
def Obligations.StepRunsFrontCommand : Prop :=
  ∀ (c : Instr) (rest : List Instr) (s : State), s.pending = c :: rest → step s = exec c { s with pending := rest }

/-- MODEL'S CHOICE (log entries 2, 5 and 12): an empty queue takes the event that is due, then the end of an overdue write, and
otherwise lets a hundredth of a millisecond pass. -/
def Obligations.EmptyQueueTakesDueEventOrTicks : Prop :=
  ∀ s : State, s.pending = [] →
    (∀ i, s.nextDue = some i → step s = exec i s) ∧
    (s.nextDue = none → s.writeDue = true →
      step s = exec (.commitWriteEnd (Config.storeReadsBack s.freeCount)) { s with freeCount := s.freeCount + 1 }) ∧
    (s.nextDue = none → s.writeDue = false → step s = .next s.tick)

/-- Reset is a power-on that finds no valid stored copy: the values of R16, R64, R82, R171, R180 for it. That the store is
invalid is the model's choice (log entry 1). -/
def Obligations.ResetIsPowerOnInSetup : Prop :=
  let s := State.reset
  s.mode = .setup ∧ s.active = none ∧ s.load = .absent ∧ s.sensors = [] ∧ s.sections = [] ∧ s.points = [] ∧
  s.tracks = [] ∧ s.planned = [] ∧ s.floor = 0 ∧ s.cuts = [] ∧ s.demands = [] ∧ s.crest = Crest.idle ∧
  s.freeze = false ∧ s.holds = ⟨[], []⟩ ∧ s.relay = false ∧ s.now = 0 ∧ s.pending = [] ∧
  (∀ p k, (s.custody.get p).slot k = none ∧ (s.custody.get p).inbound = []) ∧
  ∀ p, (s.ports.get p).working = none ∧ (s.ports.get p).waiting = none ∧ (s.ports.get p).urgent = none ∧
    (s.ports.get p).answers = [] ∧ (s.ports.get p).notices = [⟨0, .mode .setup none .powerOn⟩] ∧
    (s.ports.get p).overrun = false ∧ (s.ports.get p).discards = 0 ∧ (s.ports.get p).mask = Port.defaultMask p ∧
    (s.ports.get p).rx = Receiver.hunting

/-- The invariants below hold at reset. -/
def Obligations.ResetMeetsInvariants : Prop :=
  let s := State.reset
  s.Settled ∧ s.answersBounded ∧ s.noticesBounded ∧ s.holdsRight ∧ s.drivesRight

/-- Every step keeps HUMP PROCEED energised exactly when the mode is ACTIVE and no hold reason is present, leaves no claim with
the Hold Unit, and leaves DRAINING with a record to drain. -/
def Obligations.StepKeepsHumpProceedRight : Prop :=
  ∀ s t : State, s.Settled → step s = .next t →
    (t.relay = true ↔ t.mode = .active ∧ t.holds.present = []) ∧ t.Settled

/-- Every step keeps each answer queue to one ordinary answer, one urgent answer and two BUSY answers; while a working request
is taken no ordinary answer waits. -/
def Obligations.StepKeepsAnswerQueuesBounded : Prop :=
  ∀ s t : State, s.answersBounded → step s = .next t → t.answersBounded

/-- Every step keeps each notice queue to 64 notices and each discard count to 65535. -/
def Obligations.StepKeepsNoticeQueuesBounded : Prop :=
  ∀ s t : State, s.noticesBounded → step s = .next t → t.noticesBounded

/-- Every step keeps the hold reasons in the order of their table, each once, and URGENT present exactly while a port stands for
it. -/
def Obligations.StepKeepsHoldSetRight : Prop :=
  ∀ s t : State, s.holdsRight → step s = .next t → t.holdsRight

/-- Every step keeps a drive output on only while its point is THROWING toward that side. -/
def Obligations.StepKeepsDrivesWithTheirThrows : Prop :=
  ∀ s t : State, s.drivesRight → step s = .next t → t.drivesRight

/-- Every step has a next state: no command and no event stops the machine. -/
def Obligations.EveryStepHasANextState : Prop := ∀ s : State, ∃ t, step s = .next t

/-! ### The line (R181, R182, R185, R187) -/

/-- A receiver that hunts gathers exactly the frame whose bytes arrive, of whatever kind, tag, code and payload of up to 1024
bytes. All its bytes come at one clock value: the pauses of up to 5 ms that R182 allows between them are left out. -/
def Obligations.ReceiverGathersSentFrame : Prop :=
  ∀ (clock kind tag code : Nat) (payload : List Byte), kind < 256 → tag < 256 → code < 256 → payload.length ≤ 1024 →
    ((frameBytes kind tag code payload).foldl (fun r b => r.feed clock b) Receiver.hunting).frame =
      some ⟨kind, tag, code, payload, true⟩

/-- Every request whose fields fit is read back from its payload, every operand at every value its field can carry. How a parent,
a target and an optional field are laid out is the model's choice (log entry 10), and so are the slot numbers, NONE, the early
factor and the notify flags (log entries 41, 42, 49). -/
def Obligations.SentRequestIsReadBack : Prop :=
  ∀ (i : Instr) (m : Wire.Sent), i.wellFormed = true → Wire.requestFrame i = some m →
    (if m.urgent then decodeUrgent m.port m.tag m.code m.payload
     else decodeRequest m.port m.tag m.code m.payload) = i

/-- A whole REQUEST frame is placed in the working slot, else in the waiting slot; with both occupied it is answered BUSY with
no fields, or, with two BUSY answers queued, not at all. Nothing else changes but lines that start. A request held in the working
slot runs, when no ordinary answer waits and no urgent frame may be taken, exactly as one that arrives at a port whose working slot
is empty and whose waiting slot is as it is: that state is ready, and what is stated of a ready port is so of it. Where a break has
marked its answer to be discarded, the request does its work, the waiting request moves up, and no answer is queued. -/
def Obligations.RequestFramePlacement : Prop :=
  ∀ (p : Port) (tag code : Nat) (d : List Byte) (s : State), s.powered = true → s.Settled → d.length ≤ 1024 →
    let q := s.ports.get p
    exec (.requestFrameReceived p tag code d) s = .next (s.modPort p (fun q =>
      { q with
        rx := q.rx.finished,
        working := if q.working.isNone then some ⟨decodeRequest p tag code d, false, false⟩ else q.working,
        waiting := if q.working.isSome ∧ q.waiting.isNone then some (decodeRequest p tag code d) else q.waiting,
        answers := if q.working.isSome ∧ q.waiting.isSome ∧ (q.answers.filter (fun a => a.kind == .busy)).length < 2
          then q.answers ++ [⟨.busy, ⟨tag, code, ⟨.busy, .nothing⟩⟩⟩] else q.answers })).startLines ∧
    (q.working = none → ∃ t, exec (.requestFrameReceived p tag code d) s = .next t ∧
      (t.ports.get p).working = some ⟨decodeRequest p tag code d, false, false⟩) ∧
    (q.hasAnswer .ordinary = false → q.readyUrgent = none →
      let c := decodeRequest p tag code d
      (∀ discard, q.working = some ⟨c, false, discard⟩ → q.given = [] → q.rx.frame = none → State.portDue p q = some c) ∧
      (q.working = some ⟨c, false, false⟩ →
        let u := s.modPort p (fun q => { q with working := none })
        u.ready p ∧ (u.ports.get p).waiting = q.waiting ∧ exec c s = exec c u) ∧
      (q.working = some ⟨c, false, true⟩ →
        (∃ t, exec c s = .next t ∧ (∀ x ∈ (t.ports.get p).answers, x ∈ q.answers) ∧
          (∀ x, (t.ports.get p).line = some (.answer x) → q.line = some (.answer x) ∨ ∃ k, ⟨k, x⟩ ∈ q.answers) ∧
          (code ≠ 9 → code ≠ 29 →
            (t.ports.get p).working = q.waiting.map (fun c => ⟨c, false, false⟩) ∧ (t.ports.get p).waiting = none)) ∧
        (∀ work : State → State × Option Reply,
          let o := work (s.modPort p (fun q => { q with working := some ⟨c, true, true⟩ }))
          (o.1.ports.get p).working = some ⟨c, true, true⟩ →
          (o.2 = none → request p tag code c work s = .next (o.1.finish s (some (.request code p)))) ∧
          (o.2 ≠ none → request p tag code c work s = .next ((o.1.modPort p (fun q => { q with
            working := q.waiting.map (fun c => ⟨c, false, false⟩), waiting := none })).finish s (some (.request code p)))))))

/-- A whole URGENT frame is placed in the urgent slot; with that occupied it is answered BUSY in the urgent answer's place, or
not at all when that place is filled. A frame held in the urgent slot runs, when no urgent answer waits, exactly as one that
arrives at a port whose urgent slot is empty: that state is ready for it. -/
def Obligations.UrgentFramePlacement : Prop :=
  ∀ (p : Port) (tag code : Nat) (d : List Byte) (s : State), s.powered = true → s.Settled → d.length ≤ 1024 →
    exec (.urgentFrameReceived p tag code d) s = .next (s.modPort p (fun q =>
      { q with
        rx := q.rx.finished,
        urgent := if q.urgent.isNone then some (decodeUrgent p tag code d) else q.urgent,
        answers := if q.urgent.isSome ∧ q.hasAnswer .urgent = false
          then q.answers ++ [⟨.urgent, ⟨tag, code, ⟨.busy, .nothing⟩⟩⟩] else q.answers })).startLines ∧
    (let q := s.ports.get p
     let c := decodeUrgent p tag code d
     q.urgent = some c → q.hasAnswer .urgent = false →
       let u := s.modPort p (fun q => { q with urgent := none })
       u.readyUrgent p ∧ exec c s = exec c u ∧ (q.given = [] → q.rx.frame = none → State.portDue p q = some c))

/-- Bytes, discards, pauses and the start of a break touch the receiver alone: a byte that is no start byte leaves a hunting
receiver hunting and a start byte puts it IN FRAME; a whole frame with a bad check word is hunted through from its second byte;
one of another kind, an incomplete frame after a pause and an incomplete frame at a break leave it hunting. Bytes that arrived
behind a whole frame not yet taken (rx.backlog) are hunted through after it (log entry 33). A break with a whole frame in hand and
a length field above 1024 are left out. -/
def Obligations.ReceiverEventsTouchReceiverOnly : Prop :=
  ∀ (p : Port) (b : Byte) (s : State), s.powered = true → s.Settled →
    let rx := (s.ports.get p).rx
    let with' := fun r : Receiver => (s.modPort p (fun q => { q with rx := r })).startLines
    (exec (.byteReceived p b) s = .next (with' (rx.feed s.clock b))) ∧
    (rx.buf = [] → rx.backlog = [] → (rx.feed s.clock b).buf = if b = 0xC3#8 then [b] else []) ∧
    (∀ f, rx.frame = some f → f.good = false →
      exec (.frameDiscarded p) s = .next (with' (rx.hunt (rx.buf.tail ++ rx.backlog)))) ∧
    (∀ f, rx.frame = some f → f.good = true → f.kind ≠ 1 → f.kind ≠ 2 →
      exec (.frameDiscarded p) s = .next (with' (rx.hunt rx.backlog))) ∧
    (rx.buf ≠ [] → rx.isWhole = false → 500 < s.clock - rx.lastByte →
      exec (.interByteTimeout p) s = .next (with' Receiver.hunting)) ∧
    (rx.isWhole = false → exec (.lineBreakStart p) s = .next (with' Receiver.hunting))

/-- A break of 10 ms resets its port: the receiver (a whole frame in it is lost, which is the model's choice: log entry 55),
slots, queues, marker, count and mask, an OPEN load of the port; a working request stays to be completed with its answer
discarded; the frame on the line stays; every other port only starts its line. -/
def Obligations.LineBreakResetsPort : Prop :=
  ∀ (p : Port) (s : State), s.powered = true → s.Settled →
    exec (.lineBreakReset p) s = .next
      { s with
        load := (match s.load with
          | .opened owner l => if owner = p then .absent else .opened owner l
          | l => l),
        ports := (s.ports.set p
          { s.ports.get p with
            rx := Receiver.hunting, waiting := none, urgent := none, answers := [], notices := [], overrun := false,
            discards := 0, mask := Port.defaultMask p,
            working := (s.ports.get p).working.map (fun w => { w with discard := true }) }).map (startLine s.now) }

/-- A frame sent frees the line, and the next frame starts: the oldest answer, else the oldest notice; a notice that leaves
while the overrun marker is set brings an OVERRUN notice at the tail and clears marker and count. That a frame leaves its queue
when its sending begins is the model's choice (log entry 60). -/
def Obligations.FrameSentStartsNextFrame : Prop :=
  ∀ (p : Port) (s : State), s.powered = true → s.Settled →
    ∃ t, exec (.frameSent p) s = .next t ∧
      t = { s with ports := t.ports } ∧ (∀ r, r ≠ p → t.ports.get r = startLine s.now (s.ports.get r)) ∧
      let q := s.ports.get p
      (∀ a rest, q.answers = a :: rest →
        t.ports.get p = { q with line := some (.answer a.answer), answers := rest }) ∧
      (∀ n rest, q.answers = [] → q.notices = n :: rest → q.overrun = false →
        t.ports.get p = { q with line := some (.notice n), notices := rest }) ∧
      (∀ n rest, q.answers = [] → q.notices = n :: rest → q.overrun = true →
        t.ports.get p = { q with line := some (.notice n), notices := rest ++ [⟨s.now, .overrun q.discards⟩],
                                 overrun := false, discards := 0 }) ∧
      (q.answers = [] → q.notices = [] → t.ports.get p = { q with line := none })

/-- A port takes the oldest notice given to it: queued when its mask admits the class and the queue holds fewer than 64; with 64
the marker is set and the count rises, up to 65535; a class the mask excludes leaves no trace. The mask is that of the moment the
port takes the notice (log entry 56). -/
def Obligations.PortTakesNoticeByMaskAndRoom : Prop :=
  ∀ (p : Port) (n : Notice) (rest : List Notice) (s : State), s.powered = true → s.Settled →
    (s.ports.get p).given = n :: rest →
    let admits := (s.ports.get p).mask.admits n.body.classCode.1
    exec (.noticeGiven p) s = .next (s.modPort p (fun q =>
      { q with
        given := rest,
        notices := if admits ∧ q.notices.length < 64 then q.notices ++ [n] else q.notices,
        overrun := if admits ∧ 64 ≤ q.notices.length then true else q.overrun,
        discards := if admits ∧ 64 ≤ q.notices.length then min (q.discards + 1) 65535 else q.discards })).startLines

/-! ### Reads and requests on the port itself (R71, R121, R146, R159, R62, R170, R191, R193, R194) -/

/-- READ LIST gives floor, count, whether a record is STAGED, and the first 16 items from the roll number asked for, the STAGED
record first; READ CUT gives the record, each step with whether a demand stands for it and its toe time, or NO SUCH. -/
def Obligations.ReadListAndReadCutAnswer : Prop :=
  ∀ (p : Port) (tag : Nat) (s : State), s.ready p → s.Settled →
    (∀ n, exec (.readList p tag (.fits n)) s = .next (s.served p tag 1 ⟨.done, .list s.floor s.planned.length
      s.staged?.isSome
      (((s.staged?.toList.map (fun r => (⟨r.id.roll, r.expected, r.planned, r.cls, r.tag, r.port,
          some (r.dest, r.status, if r.cls = .restricted then some r.accepted else none)⟩ : ListItem)) ++
        s.planned.map (fun e => (⟨e.roll, e.axles, e.track, e.cls, e.tag, e.port, none⟩ : ListItem))).filter
          (fun i : ListItem => decide (n ≤ i.roll))).take 16)⟩)) ∧
    (∀ c, s.cut? c = none → exec (.readCut p tag (.fits c)) s = .next (s.served p tag 2 ⟨.noSuch, .nothing⟩)) ∧
    (∀ c r, s.cut? c = some r → exec (.readCut p tag (.fits c)) s = .next (s.served p tag 2 ⟨.done, .cut r
      (r.path.map (fun st => ⟨st, (s.demandOf c st.point).map Demand.toe⟩))⟩))

/-- READ POINT, READ TRACK and READ SECTION give the record named with what R146, R159 and R62 add, or NO SUCH; they change
nothing but their port. (Places in a grant queue are counted from 1: log entry 59.) -/
def Obligations.ReadPointTrackSectionAnswer : Prop :=
  ∀ (p : Port) (tag n : Nat) (s : State), s.ready p → s.Settled →
    (s.point? n = none → exec (.readPoint p tag (.fits n)) s = .next (s.served p tag 3 ⟨.noSuch, .nothing⟩)) ∧
    (∀ r, s.point? n = some r → exec (.readPoint p tag (.fits n)) s = .next (s.served p tag 3 ⟨.done,
      .pointRec r (s.layout.point? n) r.lie r.pair
        (match r.measured with
         | some m => max r.timing.allowance (m + 100)
         | none => r.timing.allowance)
        s.freeze (s.headOf n) (s.sectionEmpty n) (s.sectionProven n)⟩)) ∧
    (s.track? n = none → exec (.readTrack p tag (.fits n)) s = .next (s.served p tag 4 ⟨.noSuch, .nothing⟩)) ∧
    (∀ r, s.track? n = some r → exec (.readTrack p tag (.fits n)) s = .next (s.served p tag 4 ⟨.done,
      .trackRec r (s.closePlace n) (allPorts.filter (fun q => (s.custody.get q).slots.any (fun g => match g with
        | some g => g.track == n && g.rights.assign
        | none => false)))⟩)) ∧
    (s.sectionAt? n = none → exec (.readSection p tag (.fits n)) s = .next (s.served p tag 5 ⟨.noSuch, .nothing⟩)) ∧
    (∀ r, s.sectionAt? n = some r → exec (.readSection p tag (.fits n)) s = .next (s.served p tag 5 ⟨.done,
      .sectionRec r ([s.layout.entrySensor n, .out n .n, .out n .r].map (fun x => match s.sensor? x with
        | some q => ⟨x, q.condition, q.disturb⟩
        | none => ⟨x, .normal, 0⟩))⟩))

/-- READ PORT, in every mode and from every port, gives the port and the yard as they stand, its own working slot in use; READ
GRANTS, in every mode, gives the requesting port's own slots and inbound entries, and from the Speed port is DENIED. -/
def Obligations.ReadPortAndReadGrantsAnswerOwnPort : Prop :=
  ∀ (p : Port) (tag : Nat) (s : State), s.ready p → s.Settled →
    let q := s.ports.get p
    (exec (.readPort p tag (.fits ())) s = .next (s.served p tag 6 ⟨.done,
      .port p true q.waiting.isSome q.urgent.isSome q.answers.length q.notices.length q.overrun q.discards q.mask
        (s.custody.get p).inbound.length s.mode
        (match s.load with
         | .absent => .none
         | .opened _ _ => .opened
         | .writing _ _ _ => .writing)
        (match s.load with
         | .absent => none
         | .opened o _ => some o
         | .writing o _ _ => some o)
        s.holds s.relay s.now⟩)) ∧
    (p ≠ .speed → exec (.readGrants p tag (.fits ())) s =
      .next (s.served p tag 7 ⟨.done, .grants (s.custody.get p).slots (s.custody.get p).inbound⟩)) ∧
    (p = .speed → ∀ f, exec (.readGrants p tag f) s = .next (s.served p tag 7 ⟨.denied, .nothing⟩))

/-- SET MASK replaces the port's mask and answers with the mask before and after, in every mode; a set with bit 7 is BAD VALUE. -/
def Obligations.SetMaskReplacesMask : Prop :=
  ∀ (p : Port) (tag b : Nat) (s : State), s.ready p → s.Settled →
    let m : ClassMask := ⟨b.testBit 0, b.testBit 1, b.testBit 2, b.testBit 3, b.testBit 4, b.testBit 5, b.testBit 6⟩
    (b < 128 → exec (.setMask p tag (.fits b)) s = .next ((s.modPort p (fun q => { q with mask := m })).served p tag 8
      ⟨.done, .masks (s.ports.get p).mask m⟩)) ∧
    (128 ≤ b → exec (.setMask p tag (.fits b)) s = .next (s.served p tag 8 ⟨.badValue, .nothing⟩))

/-- PORT RESET empties the port's slots and queues, clears marker and count, takes the default mask, abandons an OPEN load of the
port, and then queues its own DONE; a payload that is not empty is BAD VALUE and resets nothing. -/
def Obligations.PortResetEmptiesPortThenAnswers : Prop :=
  ∀ (p : Port) (tag : Nat) (s : State), s.ready p → s.Settled →
    (exec (.portReset p tag (.fits ())) s = .next (({ s with
        load := (match s.load with
          | .opened owner l => if owner = p then .absent else .opened owner l
          | l => l),
        ports := s.ports.set p { s.ports.get p with
          working := none, waiting := none, urgent := none, answers := [], notices := [], overrun := false,
          discards := 0, mask := Port.defaultMask p } } : State).served p tag 9 ⟨.done, .nothing⟩)) ∧
    (∀ k, exec (.portReset p tag (.misfit k)) s = .next (s.served p tag 9 ⟨.badValue, .offset k⟩))

/-- A request its role may not make is DENIED in every mode, whatever its fields, and changes nothing but its port: each request of
R183 at each port it is barred from, and the urgent FREEZE POINTS from a port that is not Crest (R186). So is a code that names
no request, in a REQUEST frame as in an URGENT frame. In SETUP a request its role may make, whose fields fit, is answered WRONG
MODE, and so is the urgent FREEZE POINTS: every request but those R17 takes there (START HUMPING, YARD CLEAR and ENTER CUT also
while a load is WRITING; for the first two that is the model's choice: log entry 34). -/
def Obligations.UnknownAndOutOfRoleRequestsAreDenied : Prop :=
  ∀ (p : Port) (tag : Nat) (s : State), s.Settled →
    (s.readyUrgent p →
      let denied := fun code => Host.Outcome.next (φ := Fault) (ρ := Refusal) (s.modPort p (fun q =>
        { q with answers := q.answers ++ [⟨.urgent, ⟨tag, code, ⟨.denied, .nothing⟩⟩⟩] })).startLines
      (∀ code, exec (.unknownRequest p tag code true) s = denied code) ∧
      (p ≠ .crest → ∀ f, exec (.freezePoints p tag true f) s = denied 42) ∧
      (p = .crest → s.mode = .setup → exec (.freezePoints p tag true (.fits ())) s = .next (s.modPort p (fun q =>
        { q with answers := q.answers ++ [⟨.urgent, ⟨tag, 42, ⟨.wrongMode, .nothing⟩⟩⟩] })).startLines)) ∧
    (s.ready p →
      let denied := fun code => Host.Outcome.next (φ := Fault) (ρ := Refusal) (s.served p tag code ⟨.denied, .nothing⟩)
      (∀ code, exec (.unknownRequest p tag code false) s = denied code) ∧
      (p = .speed → ∀ f, exec (.readGrants p tag f) s = denied 7) ∧
      (p ≠ .planning → (∀ f, exec (.enterCut p tag f) s = denied 16) ∧ (∀ f, exec (.amendCut p tag f) s = denied 17)) ∧
      (p = .speed ∨ p = .bowl →
        (∀ f, exec (.withdrawCut p tag f) s = denied 18) ∧ (∀ f, exec (.layoutBegin p tag f) s = denied 24) ∧
        (∀ f, exec (.layoutPoint p tag f) s = denied 25) ∧ (∀ f, exec (.layoutTrack p tag f) s = denied 26) ∧
        (∀ f, exec (.layoutSensor p tag f) s = denied 27) ∧ (∀ f, exec (.layoutYard p tag f) s = denied 28) ∧
        (∀ f, exec (.layoutCommit p tag f) s = denied 29) ∧ (∀ f, exec (.layoutAbandon p tag f) s = denied 30)) ∧
      (p ≠ .crest →
        (∀ f, exec (.startHumping p tag f) s = denied 32) ∧ (∀ f, exec (.stopHumping p tag f) s = denied 33) ∧
        (∀ f, exec (.yardClear p tag f) s = denied 34) ∧ (∀ f, exec (.holdHump p tag f) s = denied 35) ∧
        (∀ f, exec (.acceptNext p tag f) s = denied 36) ∧ (∀ f, exec (.blockPoint p tag f) s = denied 40) ∧
        (∀ f, exec (.restorePoint p tag f) s = denied 41) ∧ (∀ f, exec (.freezePoints p tag false f) s = denied 42) ∧
        (∀ f, exec (.unfreeze p tag f) s = denied 43) ∧ (∀ f, exec (.setPointTiming p tag f) s = denied 44) ∧
        (∀ f, exec (.ackFault p tag f) s = denied 45) ∧ (∀ f, exec (.ackTracking p tag f) s = denied 46) ∧
        (∀ f, exec (.ackIntrusion p tag f) s = denied 47) ∧ (∀ f, exec (.clearSection p tag f) s = denied 48) ∧
        (∀ f, exec (.rerouteCut p tag f) s = denied 49) ∧ (∀ f, exec (.recallGrant p tag f) s = denied 50)) ∧
      (p ≠ .speed → ∀ f, exec (.speedReport p tag f) s = denied 56) ∧
      (p = .speed →
        (∀ f, exec (.closeTrack p tag f) s = denied 64) ∧ (∀ f, exec (.openTrack p tag f) s = denied 65) ∧
        (∀ f, exec (.pullRecord p tag f) s = denied 66) ∧ (∀ f, exec (.setCapacity p tag f) s = denied 67) ∧
        (∀ f, exec (.setAlternate p tag f) s = denied 68) ∧ (∀ f, exec (.copyGrant p tag f) s = denied 72) ∧
        (∀ f, exec (.passGrant p tag f) s = denied 73) ∧ (∀ f, exec (.takeGrant p tag f) s = denied 74) ∧
        (∀ f, exec (.refuseGrant p tag f) s = denied 75) ∧ (∀ f, exec (.dropGrant p tag f) s = denied 76)) ∧
      (s.mode = .setup →
        let wrong := fun code => Host.Outcome.next (φ := Fault) (ρ := Refusal) (s.served p tag code ⟨.wrongMode, .nothing⟩)
        (p = .planning → (∀ a, exec (.enterCut p tag (.fits a)) s = wrong 16) ∧
          (∀ a, exec (.amendCut p tag (.fits a)) s = wrong 17)) ∧
        (p = .planning ∨ p = .crest → ∀ a, exec (.withdrawCut p tag (.fits a)) s = wrong 18) ∧
        (p = .crest →
          exec (.startHumping p tag (.fits ())) s = wrong 32 ∧ exec (.stopHumping p tag (.fits ())) s = wrong 33 ∧
          exec (.yardClear p tag (.fits ())) s = wrong 34 ∧ exec (.holdHump p tag (.fits ())) s = wrong 35 ∧
          (∀ a, exec (.acceptNext p tag (.fits a)) s = wrong 36) ∧ (∀ a, exec (.blockPoint p tag (.fits a)) s = wrong 40) ∧
          (∀ a, exec (.restorePoint p tag (.fits a)) s = wrong 41) ∧
          exec (.freezePoints p tag false (.fits ())) s = wrong 42 ∧ exec (.unfreeze p tag (.fits ())) s = wrong 43 ∧
          (∀ a, exec (.setPointTiming p tag (.fits a)) s = wrong 44) ∧ (∀ a, exec (.ackFault p tag (.fits a)) s = wrong 45) ∧
          exec (.ackTracking p tag (.fits ())) s = wrong 46 ∧ exec (.ackIntrusion p tag (.fits ())) s = wrong 47 ∧
          (∀ a, exec (.clearSection p tag (.fits a)) s = wrong 48) ∧ (∀ a, exec (.rerouteCut p tag (.fits a)) s = wrong 49) ∧
          (∀ a, exec (.recallGrant p tag (.fits a)) s = wrong 50)) ∧
        (p = .speed → ∀ a, exec (.speedReport p tag (.fits a)) s = wrong 56) ∧
        (p ≠ .speed →
          (∀ a, exec (.closeTrack p tag (.fits a)) s = wrong 64) ∧ (∀ a, exec (.openTrack p tag (.fits a)) s = wrong 65) ∧
          (∀ a, exec (.pullRecord p tag (.fits a)) s = wrong 66) ∧ (∀ a, exec (.setCapacity p tag (.fits a)) s = wrong 67) ∧
          (∀ a, exec (.setAlternate p tag (.fits a)) s = wrong 68) ∧ (∀ a, exec (.copyGrant p tag (.fits a)) s = wrong 72) ∧
          (∀ a, exec (.passGrant p tag (.fits a)) s = wrong 73) ∧ (∀ a, exec (.takeGrant p tag (.fits a)) s = wrong 74) ∧
          exec (.refuseGrant p tag (.fits ())) s = wrong 75 ∧ (∀ a, exec (.dropGrant p tag (.fits a)) s = wrong 76))))

/-! ### Hold reasons (R172 to R178) -/

/-- HOLD HUMP raises OPERATOR, WRONG MODE in SETUP, DENIED from another port. HOLD NOW, in a REQUEST or an URGENT frame, in every
mode and from every port, adds the port to the ports of URGENT and makes URGENT present. A reason present keeps its time, every
other stays, the relay is released, and the answer shows the set after the update. -/
def Obligations.HoldRequestsRaiseTheirReasons : Prop :=
  ∀ (p : Port) (tag : Nat) (s : State), s.Settled →
    (s.ready p →
      (p ≠ .crest → exec (.holdHump p tag (.fits ())) s = .next (s.served p tag 35 ⟨.denied, .nothing⟩)) ∧
      (p = .crest → s.mode = .setup →
        exec (.holdHump p tag (.fits ())) s = .next (s.served p tag 35 ⟨.wrongMode, .nothing⟩)) ∧
      (p = .crest → s.mode ≠ .setup → ∃ t, exec (.holdHump p tag (.fits ())) s = .next t ∧
        t.holds.timeOf .operator = some ((s.holds.timeOf .operator).getD s.now) ∧
        (∀ r, r ≠ .operator → t.holds.timeOf r = s.holds.timeOf r) ∧ t.holds.urgent = s.holds.urgent ∧
        t.relay = false ∧ t.Answered p tag 35 ⟨.done, .holds t.holds⟩ ∧
        t = { s with holds := t.holds, relay := t.relay, ports := t.ports })) ∧
    (∀ urgent, (urgent = false → s.ready p) → (urgent = true → s.readyUrgent p) →
      ∃ t, exec (.holdNow p tag urgent (.fits ())) s = .next t ∧
        t.holds.timeOf .urgent = some ((s.holds.timeOf .urgent).getD s.now) ∧
        (∀ q, q ∈ t.holds.urgent ↔ q = p ∨ q ∈ s.holds.urgent) ∧
        (∀ r, r ≠ .urgent → t.holds.timeOf r = s.holds.timeOf r) ∧
        t.relay = false ∧ t.Answered p tag 11 ⟨.done, .holds t.holds⟩ ∧
        t = { s with holds := t.holds, relay := t.relay, ports := t.ports })

/-- RELEASE HUMP from the Crest port clears OPERATOR and all of URGENT; from another port it removes that port from the ports of
URGENT and clears URGENT when no port remains. No other reason changes, the relay follows, and a set that did not change brings
no notice. -/
def Obligations.ReleaseHumpClearsItsHolds : Prop :=
  ∀ (p : Port) (tag : Nat) (s : State), s.ready p → s.Settled → s.holdsRight →
    ∃ t, exec (.releaseHump p tag (.fits ())) s = .next t ∧
      (p = .crest → t.holds.has .operator = false ∧ t.holds.has .urgent = false ∧ t.holds.urgent = []) ∧
      (p ≠ .crest → t.holds.urgent = s.holds.urgent.filter (fun q => q != p) ∧
        t.holds.timeOf .operator = s.holds.timeOf .operator ∧
        t.holds.timeOf .urgent = if t.holds.urgent.isEmpty then none else s.holds.timeOf .urgent) ∧
      (∀ r, r ≠ .operator → r ≠ .urgent → t.holds.timeOf r = s.holds.timeOf r) ∧
      t.relay = relayJudgement s.mode t.holds ∧
      t.Answered p tag 10 ⟨.done, .holds t.holds⟩ ∧ t = { s with holds := t.holds, relay := t.relay, ports := t.ports } ∧
      (t.holds = s.holds → ∀ q, (t.ports.get q).given = (s.ports.get q).given)

/-- ACK TRACKING: DONE with no change when TRACKING FAULT is absent; CONFLICT while a list holds an UNIDENTIFIED entry, giving
entries, axles and the lowest point, or else while a sensor is DISTURBED, giving their number and the first; else TRACKING
FAULT is cleared and the answer shows the set. ACK INTRUSION clears INTRUSION. -/
def Obligations.AcknowledgementsClearLatchedReasons : Prop :=
  ∀ (tag : Nat) (s : State), s.ready .crest → s.Settled → s.holdsRight → s.mode ≠ .setup →
    let entries := (s.sections.map (fun r => (r.occ.filter (fun e => !e.occ.isCut)).map (fun e => (r.point, e.count)))).flatten
    let disturbed := (s.sensors.filter (fun r => r.condition == .disturbed)).map SensorRec.sensor
    (s.holds.has .trackingFault = false →
      exec (.ackTracking .crest tag (.fits ())) s = .next (s.served .crest tag 46 ⟨.done, .nothing⟩)) ∧
    (s.holds.has .trackingFault = true → ∀ n k rest, entries = (n, k) :: rest →
      exec (.ackTracking .crest tag (.fits ())) s = .next (s.served .crest tag 46
        ⟨.conflict, .unidentified (rest.length + 1) (k + (rest.map (fun e => e.2)).sum) n⟩)) ∧
    (s.holds.has .trackingFault = true → entries = [] → ∀ x rest, disturbed = x :: rest →
      exec (.ackTracking .crest tag (.fits ())) s = .next (s.served .crest tag 46
        ⟨.conflict, .disturbed (rest.length + 1) x⟩)) ∧
    (s.holds.has .trackingFault = true → entries = [] → disturbed = [] →
      ∃ t, exec (.ackTracking .crest tag (.fits ())) s = .next t ∧ t.holds.has .trackingFault = false ∧
        (∀ r, r ≠ .trackingFault → t.holds.timeOf r = s.holds.timeOf r) ∧ t.holds.urgent = s.holds.urgent ∧
        t.relay = relayJudgement s.mode t.holds ∧ t.Answered .crest tag 46 ⟨.done, .holds t.holds⟩ ∧
        t = { s with holds := t.holds, relay := t.relay, ports := t.ports }) ∧
    (∃ t, exec (.ackIntrusion .crest tag (.fits ())) s = .next t ∧ t.holds.has .intrusion = false ∧
        (∀ r, r ≠ .intrusion → t.holds.timeOf r = s.holds.timeOf r) ∧ t.holds.urgent = s.holds.urgent ∧
        t.relay = relayJudgement s.mode t.holds ∧ t.Answered .crest tag 47 ⟨.done, .holds t.holds⟩ ∧
        t = { s with holds := t.holds, relay := t.relay, ports := t.ports })

/-! ### Power, layout and yard modes (R8 to R21) -/

/-- POWER_ON with a valid stored copy makes its layout active in STANDBY, every point's state that of its detection pair, every
section UNPROVEN and empty, every track CLOSED with fill 0, every sensor NORMAL; with an invalid one it enters SETUP without a
layout. In both the load, the list, the records, the crest, the freeze flag, the demands and the hold reasons are as at a reset,
the relay is released, and every port holds the MODE notice alone. POWER_LOSS keeps the stored copy. POWER_ON with the supply on
is a power cycle (log entry 16). Custody at power-on is in ValidationFindsItsChecks. -/
def Obligations.PowerOnTakesTheStoredCopy : Prop :=
  ∀ s : State, ∃ t u, exec .powerOn s = .next t ∧ exec .powerLoss s = .next u ∧
    u.powered = false ∧ u.store = s.store ∧ u.headPins = s.headPins ∧ u.detPins = s.detPins ∧ u.relay = false ∧
    t.powered = true ∧ t.clock = 0 ∧ t.store = s.store ∧ t.headPins = s.headPins ∧ t.detPins = s.detPins ∧
    t.load = .absent ∧ t.planned = [] ∧ t.floor = 0 ∧ t.cuts = [] ∧ t.crest = Crest.idle ∧ t.freeze = false ∧
    t.holds = ⟨[], []⟩ ∧ t.relay = false ∧ (∀ q ∈ t.demands, q.entries = []) ∧
    (∀ p, t.ports.get p = PortState.atPowerOn p t.mode) ∧
    (s.store.valid = false → t.mode = .setup ∧ t.active = none ∧ t.points = [] ∧ t.sections = [] ∧ t.tracks = [] ∧
      t.sensors = []) ∧
    (s.store.valid = true → t.mode = .standby ∧ t.active = some s.store.layout ∧
      t.points.map PointRec.num = s.store.layout.points.map PointItem.num ∧
      (∀ r ∈ t.points, r.blocked = none ∧ r.runIn = false ∧ r.measured = none ∧ r.driveN = false ∧ r.driveR = false ∧
        let n := s.detPins.contains (r.num, .n)
        let v := s.detPins.contains (r.num, .r)
        r.state = if n ∧ ¬ v then .locked .n else if v ∧ ¬ n then .locked .r
          else if n ∧ v then .fault .detectionConflict else .fault .detectionLost) ∧
      t.sections = s.store.layout.points.map (fun i => ⟨i.num, false, [], .stopped, []⟩) ∧
      t.tracks.map (fun r => (r.num, r.capacity)) = s.store.layout.tracks.map (fun i => (i.num, i.capacity)) ∧
      (∀ r ∈ t.tracks, r.state = .closed ∧ r.fill = 0 ∧ r.committed = 0 ∧ r.lastArrived = none) ∧
      t.sensors.map SensorRec.sensor = s.store.layout.sensorNames ∧
      ∀ r ∈ t.sensors, r.condition = .normal ∧ r.phase = .idle ∧ r.disturb = 0)

/-- LAYOUT BEGIN opens an empty load for its port in SETUP and STANDBY, when no load is open elsewhere and roll list and Cut Table
are empty; LAYOUT ABANDON ends the port's own open load. Otherwise WRONG MODE, BUSY or CONFLICT, with nothing changed. -/
def Obligations.LayoutBeginAndAbandon : Prop :=
  ∀ (p : Port) (tag : Nat) (s : State), s.ready p → s.Settled → p = .planning ∨ p = .crest →
    let begun := exec (.layoutBegin p tag (.fits ())) s
    let left := exec (.layoutAbandon p tag (.fits ())) s
    let no := fun code st => Host.Outcome.next (φ := Fault) (ρ := Refusal) (s.served p tag code ⟨st, .nothing⟩)
    (s.mode = .active ∨ s.mode = .draining → begun = no 24 .wrongMode) ∧
    (∀ o l n, s.load = .writing o l n → left = no 30 .busy) ∧
    (s.mode = .setup ∨ s.mode = .standby →
      (∀ o l n, s.load = .writing o l n → begun = no 24 .busy) ∧
      (∀ o l, s.load = .opened o l → o ≠ p → begun = no 24 .conflict) ∧
      (∀ o l, s.load = .opened o l → s.planned ≠ [] ∨ s.cuts ≠ [] → begun = no 24 .conflict) ∧
      (s.load = .absent → s.planned ≠ [] ∨ s.cuts ≠ [] → begun = no 24 .conflict) ∧
      (s.load = .absent ∨ (∃ l, s.load = .opened p l) → s.planned = [] → s.cuts = [] →
        begun = .next (({ s with load := .opened p Layout.empty } : State).served p tag 24 ⟨.done, .nothing⟩))) ∧
    (s.load = .absent ∨ (∃ o l, s.load = .opened o l ∧ o ≠ p) → left = no 30 .conflict) ∧
    (∀ l, s.load = .opened p l →
      left = .next (({ s with load := .absent } : State).served p tag 30 ⟨.done, .nothing⟩))

/-- Each layout item is put into the port's own open load: the load then holds it, none of the earlier items of its object, and
every other item, and no value but the object's existence is judged. An object that cannot exist is BAD VALUE; with no open load
of the port, CONFLICT; while a load is WRITING, BUSY. A refusal changes nothing but its port. -/
def Obligations.LayoutItemsGoIntoTheOpenLoad : Prop :=
  ∀ (p : Port) (tag : Nat) (s : State), s.ready p → s.Settled → p = .planning ∨ p = .crest →
    let no := fun code st => Host.Outcome.next (φ := Fault) (ρ := Refusal) (s.served p tag code ⟨st, .nothing⟩)
    let put := fun code l => Host.Outcome.next (φ := Fault) (ρ := Refusal)
      (({ s with load := .opened p l } : State).served p tag code ⟨.done, .nothing⟩)
    let all := fun st =>
      (∀ i, exec (.layoutPoint p tag (.fits i)) s = no 25 st) ∧ (∀ i, exec (.layoutTrack p tag (.fits i)) s = no 26 st) ∧
      (∀ i, exec (.layoutSensor p tag (.fits i)) s = no 27 st) ∧ (∀ i, exec (.layoutYard p tag (.fits i)) s = no 28 st)
    (∀ l, s.load = .opened p l →
      (∀ i : PointItem, if 1 ≤ i.num ∧ i.num ≤ 63 then
          ∃ is, exec (.layoutPoint p tag (.fits i)) s = put 25 { l with points := is } ∧
            ∀ j, j ∈ is ↔ j = i ∨ (j.num ≠ i.num ∧ j ∈ l.points)
        else exec (.layoutPoint p tag (.fits i)) s = no 25 .badValue) ∧
      (∀ i : TrackItem, if 1 ≤ i.num ∧ i.num ≤ 64 then
          ∃ is, exec (.layoutTrack p tag (.fits i)) s = put 26 { l with tracks := is } ∧
            ∀ j, j ∈ is ↔ j = i ∨ (j.num ≠ i.num ∧ j ∈ l.tracks)
        else exec (.layoutTrack p tag (.fits i)) s = no 26 .badValue) ∧
      (∀ i : SensorItem, if 1 ≤ i.input ∧ i.input ≤ 127 then
          ∃ is, exec (.layoutSensor p tag (.fits i)) s = put 27 { l with sensors := is } ∧
            ∀ j, j ∈ is ↔ j = i ∨ (j.input ≠ i.input ∧ j ∈ l.sensors)
        else exec (.layoutSensor p tag (.fits i)) s = no 27 .badValue) ∧
      (∀ y, exec (.layoutYard p tag (.fits y)) s = put 28 { l with yard := some y })) ∧
    (s.load = .absent ∨ (∃ o l, s.load = .opened o l ∧ o ≠ p) → all .conflict) ∧
    (∀ o l n, s.load = .writing o l n → all .busy)

/-- LAYOUT COMMIT of the port's own open load, with roll list and Cut Table empty: the first failed check is named with its item,
or the write starts, the stored copy invalid meanwhile and the request kept taken. A load that is absent or another port's, or a
list or table not empty, is CONFLICT. -/
def Obligations.LayoutCommitChecksThenWrites : Prop :=
  ∀ (p : Port) (tag : Nat) (s : State), s.ready p → s.Settled → p = .planning ∨ p = .crest →
    let sent := exec (.layoutCommit p tag (.fits ())) s
    let conflict := Host.Outcome.next (φ := Fault) (ρ := Refusal) (s.served p tag 29 ⟨.conflict, .nothing⟩)
    (s.load = .absent ∨ (∃ o l, s.load = .opened o l ∧ o ≠ p) ∨ (∃ o l n, s.load = .writing o l n ∧ o ≠ p) →
      sent = conflict) ∧
    (∀ l, s.load = .opened p l →
      (s.planned ≠ [] ∨ s.cuts ≠ [] → sent = conflict) ∧
      (s.planned = [] → s.cuts = [] →
        (∀ n k i, l.failedCheck = some (n, k, i) → sent = .next (s.served p tag 29 ⟨.badValue, .check n k i⟩)) ∧
        (l.failedCheck = none → ∃ t, sent = .next t ∧
          t = { s with load := .writing p l s.clock, store := ⟨l, false⟩, ports := t.ports } ∧
          (t.ports.get p).working = some ⟨.layoutCommit p tag (.fits ()), true, false⟩ ∧
          (t.ports.get p).hasAnswer .ordinary = false)))

/-- A load is judged by the eleven checks of R12 in order: the answer is the first check that fails, with the item R12 names, and
none exactly when no check fails (what goes with NONE and YARD as a number: log entry 35; holder and notify flags: log entry
14). The grants of a layout so judged fit, and custody is right from then on: at reset, after every step from a state where it
is, each track has exactly one grant carrying CLOSE, no table holds two grants for one track and each keeps its 16 slots (R160).
At power-on and at a switch-over every queue is empty and each track's full grant stands in its holder's table, in ascending
track number from slot 1; with no valid copy no grant exists. -/
def Obligations.ValidationFindsItsChecks : Prop :=
  (∀ l : Layout,
    let has := fun t => match t with
      | Target.point n => ∃ j ∈ l.points, j.num = n
      | .track n => ∃ j ∈ l.tracks, j.num = n
    let within := fun (lo hi : Nat) (v : Option Nat) => ∀ n, v = some n → lo ≤ n ∧ n ≤ hi
    let point := fun (i : PointItem) => 100 ≤ i.toe ∧ i.toe ≤ 5000 ∧ 200 ≤ i.lenN ∧ i.lenN ≤ 20000 ∧ 200 ≤ i.lenR ∧
      i.lenR ≤ 20000 ∧ within 200 4000 i.allowance ∧ within 300 5000 i.timeout ∧ i.toe < i.lenN ∧ i.toe < i.lenR ∧
      i.targetN ≠ i.targetR ∧ has i.targetN ∧ has i.targetR ∧
      (i.parent = .crest ∨ ∃ n, i.parent = .point n ∧ ∃ j ∈ l.points, j.num = n)
    let track := fun (i : TrackItem) => 1 ≤ i.capacity ∧ i.capacity ≤ 1000 ∧
      (∀ a, i.alternate = some a → a ≠ i.num ∧ ∃ j ∈ l.tracks, j.num = a) ∧
      (i.holder = 1 ∨ i.holder = 2 ∨ i.holder = 4) ∧ within 0 1 i.notifyCopy ∧ within 0 1 i.notifyPass
    let sensor := fun (i : SensorItem) => i.filter ≤ 3 ∧ 40 ≤ i.spacing ∧ i.spacing ≤ 200 ∧
      (i.input = 1 ∨ (2 ≤ i.input ∧ i.input ≤ 127 ∧ ∃ j ∈ l.points, j.num = i.input / 2))
    let yard := fun (y : YardItem) => within 50 100 y.early ∧ within 50 2000 y.separation ∧ within 5 100 y.standing ∧
      within 1 7 y.disturbance ∧ within 50 1200 y.dwell
    let outlets := fun (t : Target) => (l.outlets.filter (fun e => e.2 == t)).map (fun e => e.1)
    let parented := fun (i : PointItem) => (i.parent = .crest ∧ outlets (.point i.num) = []) ∨
      ∃ n o, i.parent = .point n ∧ outlets (.point i.num) = [⟨n, o⟩]
    let roots := l.points.filter (fun i => i.parent == .crest)
    let held := fun (n : Nat) => (l.tracks.filter (fun i => i.holder == n))[16]?
    let firstPoint := fun (good : PointItem → Prop) (x : Nat) =>
      ∃ a i b, l.points = a ++ i :: b ∧ (∀ j ∈ a, good j) ∧ ¬ good i ∧ x = i.num
    let firstTrack := fun (good : TrackItem → Prop) (x : Nat) =>
      ∃ a i b, l.tracks = a ++ i :: b ∧ (∀ j ∈ a, good j) ∧ ¬ good i ∧ x = i.num
    let fails := fun (n : Nat) (k : ItemKind) (x : Nat) =>
      (n = 1 ∧ k = .none ∧ x = 0 ∧ l.points = []) ∨
      (n = 2 ∧ k = .point ∧ firstPoint point x) ∨
      (n = 3 ∧ k = .track ∧ firstTrack track x) ∨
      (n = 4 ∧ k = .sensor ∧ ∃ a i b, l.sensors = a ++ i :: b ∧ (∀ j ∈ a, sensor j) ∧ ¬ sensor i ∧ x = i.input) ∨
      (n = 5 ∧ k = .yard ∧ x = 0 ∧ ∃ y, l.yard = some y ∧ ¬ yard y) ∨
      (n = 6 ∧ ((k = .none ∧ x = 0 ∧ roots = []) ∨ (k = .point ∧ ∃ i, roots[1]? = some i ∧ x = i.num))) ∨
      (n = 7 ∧ k = .point ∧ firstPoint parented x) ∨
      (n = 8 ∧ k = .track ∧ firstTrack (fun i => ∃ st, outlets (.track i.num) = [st]) x) ∨
      (n = 9 ∧ k = .point ∧ firstPoint (fun i => i.num ∈ l.reached) x) ∨
      (n = 10 ∧ k = .track ∧ firstTrack (fun i => (l.pathTo i.num).length ≤ 12) x) ∨
      (n = 11 ∧ k = .track ∧ ∃ i, x = i.num ∧ (held 1 = some i ∨ (held 1 = none ∧ held 2 = some i) ∨
        (held 1 = none ∧ held 2 = none ∧ held 4 = some i)))
    (l.failedCheck = none ↔ ∀ n k x, ¬ fails n k x) ∧
    ∀ n k x, l.failedCheck = some (n, k, x) ↔ fails n k x ∧ ∀ m, m < n → ∀ k' x', ¬ fails m k' x') ∧
  State.reset.custodyRight ∧
  (∀ s t : State, s.custodyRight → step s = .next t → t.custodyRight) ∧
  (let given := fun (l : Layout) (p : Port) =>
      let grants := (l.tracks.filter (fun i => i.holder == portNumber p)).map (fun i => some (Grant.mk i.num ⟨true, true, true⟩ p))
      if p = .speed then Custody.mk [] [] else ⟨grants ++ List.replicate (16 - grants.length) none, []⟩
    ∀ s t : State, s.custodyRight →
      (exec .powerOn s = .next t → ∀ p, t.custody.get p = given (if s.store.valid then s.store.layout else Layout.empty) p) ∧
      (∀ o l since, s.powered = true → s.load = .writing o l since → exec (.commitWriteEnd true) s = .next t →
        ∀ p, t.custody.get p = given l p))

/-- The end of a write. Read back valid: the layout is active in STANDBY and stored, no load, no record, every section UNPROVEN and
empty, every track CLOSED; POINT FAULT follows the new points, STALL, RUN-IN and NEXT RESTRICTED are absent, the other reasons
stay; DONE. Not valid: the load is OPEN again, the stored copy invalid, CONFLICT naming check 12 (with kind NONE and number 0:
log entry 35). -/
def Obligations.WriteEndSwitchesOverOrReopens : Prop :=
  ∀ (p : Port) (tag since : Nat) (l : Layout) (s : State), s.powered = true → s.Settled → s.load = .writing p l since →
    (s.ports.get p).working = some ⟨.layoutCommit p tag (.fits ()), true, false⟩ →
    (∃ t, exec (.commitWriteEnd true) s = .next t ∧
      t.mode = .standby ∧ t.active = some l ∧ t.load = .absent ∧ t.store = ⟨l, true⟩ ∧ t.planned = [] ∧ t.cuts = [] ∧
      t.floor = s.floor ∧ t.crest = Crest.idle ∧ t.freeze = false ∧
      t.sections = l.points.map (fun i => ⟨i.num, false, [], .stopped, []⟩) ∧
      (∀ r ∈ t.tracks, r.state = .closed ∧ r.fill = 0 ∧ r.committed = 0) ∧
      (t.holds.has .pointFault = t.points.any (fun r => match r.state with
        | .fault _ => true
        | _ => false)) ∧
      t.holds.has .stall = false ∧ t.holds.has .runIn = false ∧ t.holds.has .nextRestricted = false ∧
      (∀ r, r ≠ .pointFault → r ≠ .stall → r ≠ .runIn → r ≠ .nextRestricted → t.holds.timeOf r = s.holds.timeOf r) ∧
      t.holds.urgent = s.holds.urgent ∧ t.relay = false ∧ t.Gave (.mode .standby (some s.mode) .commit) ∧
      t.Answered p tag 29 ⟨.done, .nothing⟩) ∧
    (∃ t, exec (.commitWriteEnd false) s = .next t ∧
      t = { s with load := .opened p l, store := ⟨l, false⟩, ports := t.ports } ∧
      t.Answered p tag 29 ⟨.conflict, .check 12 .none 0⟩)

/-- START HUMPING in STANDBY or DRAINING with no load: ACTIVE, with LIST EMPTY, UNPROVEN and POINT FAULT raised where they hold,
the head entry of the list staged where it can be, and the relay energised only with no reason present. The Hold Unit takes it
all as one update, so at most one HOLD STATE notice is given (R173; the grouping by request: log entry 6). ACTIVE is answered
DONE; an open load is CONFLICT, a write BUSY, SETUP WRONG MODE (log entry 34). -/
def Obligations.StartHumpingEntersActiveInOneUpdate : Prop :=
  ∀ (tag : Nat) (s : State), s.ready .crest → s.Settled →
    let sent := exec (.startHumping .crest tag (.fits ())) s
    let answer := fun st => Host.Outcome.next (φ := Fault) (ρ := Refusal) (s.served .crest tag 32 ⟨st, .nothing⟩)
    let updates := fun (t : State) (q : Port) => ((t.ports.get q).given.filter (fun n => match n.body with
      | .holdState .. => true
      | _ => false)).length
    (s.mode = .setup → sent = answer .wrongMode) ∧ (s.mode = .active → sent = answer .done) ∧
    (s.mode = .standby ∨ s.mode = .draining →
      (∀ o l, s.load = .opened o l → sent = answer .conflict) ∧
      (∀ o l n, s.load = .writing o l n → sent = answer .busy) ∧
      (s.load = .absent → ∃ t, sent = .next t ∧ t.mode = .active ∧ t.Answered .crest tag 32 ⟨.done, .nothing⟩ ∧
        t.Gave (.mode .active (some s.mode) .start) ∧ (∀ q, updates t q ≤ updates s q + 1) ∧
        ((∃ r ∈ s.sections, r.proven = false) → t.holds.has .unproven = true) ∧
        ((∃ r ∈ s.points, ∃ c, r.state = .fault c) → t.holds.has .pointFault = true) ∧
        (t.relay = true ↔ t.holds.present = []) ∧
        (s.planned = [] → s.staged? = none → t.holds.has .listEmpty = true ∧
          t = { s with mode := .active, holds := t.holds, relay := t.relay, ports := t.ports }) ∧
        (∀ e rest, s.planned = e :: rest → s.staged? = none →
          let alt := (s.track? e.track).bind TrackRec.alternate
          t.holds.has .listEmpty = false ∧ t.floor = s.floor ∧
          (s.trackOpen e.track = false → (∀ a, alt = some a → s.trackOpen a = false) →
            t.planned = s.planned ∧ t.cuts = s.cuts ∧ t.holds.has .nextUnroutable = true) ∧
          (∀ dest status,
            (s.trackOpen e.track = true ∧ dest = e.track ∧ status = .asPlanned) ∨
              (s.trackOpen e.track = false ∧ alt = some dest ∧ s.trackOpen dest = true ∧ status = .alternate) →
            let path := s.layout.pathTo dest
            t.holds.has .nextUnroutable = false ∧
            (24 ≤ s.cuts.length ∨ s.poolFree < path.length →
              t.planned = s.planned ∧ t.cuts = s.cuts ∧ t.holds.has .capacity = true) ∧
            (s.cuts.length < 24 → path.length ≤ s.poolFree →
              t.planned = rest ∧ t.holds.has .capacity = false ∧
              (e.cls = .restricted → t.holds.has .nextRestricted = true) ∧
              t.cuts = s.cuts ++
                [{ id := ⟨e.roll, 0⟩, state := .staged, stalled := false, cls := e.cls, accepted := false, port := e.port,
                   planned := e.track, tag := e.tag, dest := dest, status := status, expected := e.axles, counted := 0,
                   held := 0, arrived := 0, merged := [], path := path, pathEnd := .track, frontier := some 0,
                   head := none, speed := none, released := none }])))))

/-- STOP HUMPING in ACTIVE: DRAINING while a record is FORMING or ROLLING, else STANDBY; the relay is released; a STAGED record
returns to the head of the list; in STANDBY and DRAINING it is answered DONE and changes nothing, in SETUP WRONG MODE. -/
def Obligations.StopHumpingReleasesTheHump : Prop :=
  ∀ (tag : Nat) (s : State), s.ready .crest → s.Settled →
    let sent := exec (.stopHumping .crest tag (.fits ())) s
    (s.mode = .setup → sent = .next (s.served .crest tag 33 ⟨.wrongMode, .nothing⟩)) ∧
    (s.mode = .standby ∨ s.mode = .draining → sent = .next (s.served .crest tag 33 ⟨.done, .nothing⟩)) ∧
    (s.mode = .active → ∃ t, sent = .next t ∧
      t.mode = (if t.cuts.any (fun r => r.state != .staged) then .draining else .standby) ∧ t.relay = false ∧
      t.Answered .crest tag 33 ⟨.done, .nothing⟩ ∧
      t.Gave (.mode (if s.cuts.any (fun r => r.state != .staged) then .draining else .standby) (some .active) .stop) ∧
      (s.staged? = none → t = { s with mode := t.mode, relay := false, ports := t.ports }) ∧
      (∀ r, s.staged? = some r →
        t.planned = ⟨r.id.roll, r.expected, r.planned, r.cls, r.tag, r.port⟩ :: s.planned ∧
        t.cuts = s.cuts.filter (fun x => x.id != r.id) ∧ t.holds.has .nextRestricted = false ∧
        (∀ q ∈ t.demands, ∀ d ∈ q.entries, d.cut ≠ r.id) ∧
        t.Gave (.cutStaged r.id .returned r.expected r.planned r.cls r.tag r.port none)))

/-- YARD CLEAR in STANDBY with no write in progress: roll list, floor, Cut Table, demands, occupancy lists, exit registers and
committed counts are emptied, every section becomes UNPROVEN, STALL is cleared; points, fills, track states, grants, layout and
every other reason stay. In other modes WRONG MODE, during a write BUSY (in SETUP during a write WRONG MODE: log entry 34). -/
def Obligations.YardClearEmptiesLiveTracking : Prop :=
  ∀ (tag : Nat) (s : State), s.ready .crest → s.Settled →
    let sent := exec (.yardClear .crest tag (.fits ())) s
    let no := fun st => Host.Outcome.next (φ := Fault) (ρ := Refusal) (s.served .crest tag 34 ⟨st, .nothing⟩)
    (s.mode = .setup ∨ s.mode = .active ∨ s.mode = .draining → sent = no .wrongMode) ∧
    (s.mode = .standby → ∀ o l n, s.load = .writing o l n → sent = no .busy) ∧
    (s.mode = .standby → (∀ o l n, s.load ≠ .writing o l n) → ∃ t, sent = .next t ∧
      t.Answered .crest tag 34 ⟨.done, .nothing⟩ ∧ t.Gave (.mode .standby (some .standby) .yardClear) ∧
      t.holds.has .stall = false ∧ (∀ r, r ≠ .stall → t.holds.timeOf r = s.holds.timeOf r) ∧
      t.holds.urgent = s.holds.urgent ∧
      t.sensors.map (fun r => (r.sensor, r.filter, r.spacing, r.condition, r.a, r.b)) =
        s.sensors.map (fun r => (r.sensor, r.filter, r.spacing, r.condition, r.a, r.b)) ∧
      (∀ r ∈ t.sensors, r.phase = .idle ∧ r.first = none ∧ r.second = none ∧ r.disturb = 0) ∧
      t = { s with
        planned := [], floor := 0, cuts := [], crest := Crest.idle, sensors := t.sensors,
        demands := s.demands.map (fun q => { q with entries := [] }),
        sections := s.sections.map (fun r => { r with proven := false, occ := [], dwell := .stopped, exits := [] }),
        tracks := s.tracks.map (fun r => { r with committed := 0, lastArrived := none }),
        evalDue := t.evalDue, holds := t.holds, ports := t.ports })

/-! ### Roll list and staging (R65 to R79, R149) -/

/-- ENTER CUT is DENIED from other ports and judged in the order of R65 (of several fields out of range BAD VALUE names the
first of roll, axles, class and tag: log entry 46); accepted, its entry stands at the tail of the list, the floor is its roll
number and the answer counts the entries, before any is staged (log entry 39). Only an entry that becomes the head in ACTIVE
with no STAGED record does more: a staging attempt is made with it as the list, which stages it at once, with its track OPEN and
room for instance, or leaves it in the list with NEXT UNROUTABLE or CAPACITY raised. -/
def Obligations.EnterCutJudgesThenAppends : Prop :=
  ∀ (tag : Nat) (a : EnterArgs) (s : State), s.Settled →
    (∀ p, p ≠ .planning → s.ready p →
      exec (.enterCut p tag (.fits a)) s = .next (s.served p tag 16 ⟨.denied, .nothing⟩)) ∧
    (s.ready .planning →
    let sent := exec (.enterCut .planning tag (.fits a)) s
    let no := fun st d => Host.Outcome.next (φ := Fault) (ρ := Refusal) (s.served .planning tag 16 ⟨st, d⟩)
    let assign := s.custody.planning.slots.any (fun g => match g with
      | some g => g.track == a.track && g.rights.assign
      | none => false)
    let total := s.planned.length + (if s.cuts.any (fun r => r.state == .staged) then 1 else 0) +
      (match s.crest.current with
       | some (.cut _) => 1
       | _ => 0)
    let entry := PlannedEntry.mk a.roll a.axles a.track (if a.cls = 0 then .normal else .restricted) a.tag .planning
    (s.mode = .setup → sent = no .wrongMode .nothing) ∧
    (s.mode ≠ .setup → ∀ o l n, s.load = .writing o l n → sent = no .busy .nothing) ∧
    (s.mode ≠ .setup → (∀ o l n, s.load ≠ .writing o l n) →
      if a.roll < 1 ∨ 65535 < a.roll then sent = no .badValue (.field .roll none)
      else if a.axles < 2 ∨ 96 < a.axles then sent = no .badValue (.field .axles none)
      else if 1 < a.cls then sent = no .badValue (.field .cls none)
      else if 12 < (a.tag.getD []).length then sent = no .badValue (.field .tag none)
      else if s.track? a.track = none then sent = no .noSuch .nothing
      else if assign = false then sent = no .noRight .nothing
      else if a.roll ≤ s.floor then sent = no .badValue (.field .roll (some s.floor))
      else if 96 ≤ total then sent = no .full .nothing
      else ∃ t, sent = .next t ∧ t.floor = a.roll ∧
        t.Answered .planning tag 16 ⟨.done, .number (s.planned.length + 1)⟩ ∧
        (s.mode ≠ .active ∨ s.planned ≠ [] ∨ s.staged? ≠ none →
          t = { s with planned := s.planned ++ [entry], floor := a.roll, ports := t.ports }) ∧
        (s.mode = .active → s.planned = [] → s.staged? = none →
          ({ s with planned := [entry] } : State).stagingLeaves t ∧ t.points = s.points ∧ t.sections = s.sections ∧
            t.mode = .active) ∧
        (s.mode = .active → s.planned = [] → s.staged? = none → s.trackOpen a.track = true → s.cuts.length < 24 →
          (s.layout.pathTo a.track).length ≤ s.poolFree →
          t.planned = [] ∧ t.holds.has .listEmpty = false ∧ t.staged? = some
            { id := ⟨a.roll, 0⟩, state := .staged, stalled := false, cls := entry.cls, accepted := false, port := .planning,
              planned := a.track, tag := a.tag, dest := a.track, status := .asPlanned, expected := a.axles, counted := 0,
              held := 0, arrived := 0, merged := [], path := s.layout.pathTo a.track, pathEnd := .track,
              frontier := some 0, head := none, speed := none, released := none })))

/-- AMEND CUT of a PLANNED entry, where no STAGED record has its roll number, changes that entry's track alone, and for the head in
ACTIVE with no STAGED record a staging attempt is made with the list so changed; of the STAGED
record, with the new track OPEN and room, it moves the record to it, and with the new track not OPEN to that track's alternate if
that is OPEN: path and demands are replaced, unless it is the destination already, the committed counts follow, and CUT STAGED
says RE-PLANNED. With neither OPEN, or the pool short, the record is un-staged, its entry returns to the head of the list with the
new track, and in ACTIVE NEXT UNROUTABLE or CAPACITY is raised. Before that: BAD VALUE, NO SUCH, NO RIGHT and TOO LATE in the order
of R67. -/
def Obligations.AmendCutChangesTheTrack : Prop :=
  ∀ (tag : Nat) (a : AmendArgs) (s : State), s.ready .planning → s.Settled → s.mode ≠ .setup →
    let sent := exec (.amendCut .planning tag (.fits a)) s
    let no := fun st d => Host.Outcome.next (φ := Fault) (ρ := Refusal) (s.served .planning tag 17 ⟨st, d⟩)
    let assign := s.custody.planning.slots.any (fun g => match g with
      | some g => g.track == a.track && g.rights.assign
      | none => false)
    if a.roll < 1 ∨ 65535 < a.roll then sent = no .badValue .nothing
    else if s.track? a.track = none then sent = no .noSuch (.track a.track)
    else if assign = false then sent = no .noRight .nothing
    else if s.cuts.any (fun r => r.state != .staged && (r.id.roll == a.roll || r.merged.contains a.roll)) then
      sent = no .tooLate .nothing
    else
      (s.staged?.any (fun r => r.id.roll == a.roll) = false → (∀ e ∈ s.planned, e.roll ≠ a.roll) →
        sent = no .noSuch (.roll a.roll)) ∧
      (s.staged?.any (fun r => r.id.roll == a.roll) = false → (∃ e ∈ s.planned, e.roll = a.roll) →
        let planned := s.planned.map (fun e => if e.roll = a.roll then { e with track := a.track } else e)
        ∃ t, sent = .next t ∧ t.Answered .planning tag 17 ⟨.done, .planState false⟩ ∧ t.floor = s.floor ∧
          (s.mode ≠ .active ∨ s.staged? ≠ none ∨ s.planned.head?.map PlannedEntry.roll ≠ some a.roll →
            t = { s with planned := planned, ports := t.ports }) ∧
          (s.mode = .active → s.staged? = none → s.planned.head?.map PlannedEntry.roll = some a.roll →
            ({ s with planned := planned } : State).stagingLeaves t ∧ t.points = s.points ∧ t.sections = s.sections ∧
              t.mode = .active)) ∧
      (∀ r, s.staged? = some r → r.id.roll = a.roll → s.trackOpen a.track = true →
        (s.layout.pathTo a.track).length ≤ s.poolFree + s.demandCount r.id →
        ∃ t x, sent = .next t ∧ t.Answered .planning tag 17 ⟨.done, .planState true⟩ ∧ t.cut? r.id = some x ∧
          x.planned = a.track ∧ x.dest = a.track ∧ x.status = .asPlanned ∧
          x.path = if a.track = r.dest then r.path else s.layout.pathTo a.track) ∧
      (∀ r, s.staged? = some r → r.id.roll = a.roll →
        let alt := (s.track? a.track).bind TrackRec.alternate
        let returned := fun (why : HoldReason) => (∀ x ∈ s.cuts, x.state = .staged → x.id = r.id) →
          ∃ t, sent = .next t ∧ t.Answered .planning tag 17 ⟨.done, .planState false⟩ ∧
            t.planned = ⟨r.id.roll, r.expected, a.track, r.cls, r.tag, r.port⟩ :: s.planned ∧
            t.cuts = s.cuts.filter (fun x => x.id != r.id) ∧ (∀ q ∈ t.demands, ∀ d ∈ q.entries, d.cut ≠ r.id) ∧
            t.holds.has .nextRestricted = false ∧ (s.mode = .active → t.holds.has why = true ∧ t.relay = false) ∧
            t.Gave (.cutStaged r.id .returned r.expected a.track r.cls r.tag r.port none)
        (s.trackOpen a.track = false → (∀ x, alt = some x → s.trackOpen x = false) → returned .nextUnroutable) ∧
        (∀ dest status,
          (s.trackOpen a.track = true ∧ dest = a.track ∧ status = .asPlanned) ∨
            (s.trackOpen a.track = false ∧ alt = some dest ∧ s.trackOpen dest = true ∧ status = .alternate) →
          let path := if dest = r.dest then r.path else s.layout.pathTo dest
          (dest ≠ r.dest → s.poolFree + s.demandCount r.id < path.length → returned .capacity) ∧
          (dest = r.dest ∨ path.length ≤ s.poolFree + s.demandCount r.id → ∃ t x, sent = .next t ∧
            t.Answered .planning tag 17 ⟨.done, .planState true⟩ ∧ t.cut? r.id = some x ∧
            x = { r with planned := a.track, dest := dest, status := status, path := path, pathEnd := x.pathEnd,
                         speed := x.speed } ∧
            (∀ c, c ≠ r.id → t.cut? c = s.cut? c) ∧ t.planned = s.planned ∧
            t.Gave (.cutStaged r.id .rePlanned r.expected a.track r.cls r.tag r.port (some (dest, status, path.length))) ∧
            (dest = r.dest → t.demands = s.demands ∧ t.tracks = s.tracks) ∧
            (dest ≠ r.dest →
              t.demands = ((s.removeDemands r.id (fun _ => true)).insertDemands r.id path).demands ∧
              (t.track? dest).map TrackRec.committed = (s.track? dest).map (fun k => k.committed + 1) ∧
              (t.track? r.dest).map TrackRec.committed = (s.track? r.dest).map (fun k => k.committed - 1)))))

/-- WITHDRAW CUT from the Planning or Crest port removes the PLANNED entry of the roll number, and does no more unless it was the
head in ACTIVE with no STAGED record, where a staging attempt is made with what is left; else it frees the STAGED record with a CUT
STAGED notice, and in ACTIVE a staging attempt follows; else TOO LATE for a moving roll, or NO SUCH. -/
def Obligations.WithdrawCutRemovesEntryOrStaged : Prop :=
  ∀ (p : Port) (tag n : Nat) (s : State), s.ready p → s.Settled → s.mode ≠ .setup → p = .planning ∨ p = .crest →
    let sent := exec (.withdrawCut p tag (.fits n)) s
    let no := fun st => Host.Outcome.next (φ := Fault) (ρ := Refusal) (s.served p tag 18 ⟨st, .nothing⟩)
    if n < 1 ∨ 65535 < n then sent = no .badValue
    else if s.planned.any (fun e => e.roll == n) then
      ∃ t, sent = .next t ∧ t.Answered p tag 18 ⟨.done, .planState false⟩ ∧ t.floor = s.floor ∧
        (∀ e ∈ t.planned, e.roll ≠ n) ∧
        (s.mode ≠ .active ∨ s.staged? ≠ none ∨ s.planned.head?.map PlannedEntry.roll ≠ some n →
          t = { s with planned := s.planned.filter (fun e => e.roll != n), ports := t.ports }) ∧
        (s.mode = .active → s.staged? = none → s.planned.head?.map PlannedEntry.roll = some n →
          ({ s with planned := s.planned.filter (fun e => e.roll != n) } : State).stagingLeaves t ∧
            t.points = s.points ∧ t.sections = s.sections ∧ t.mode = .active)
    else
      (∀ r, s.staged? = some r → r.id.roll = n →
        ∃ t, sent = .next t ∧ t.Answered p tag 18 ⟨.done, .planState true⟩ ∧ t.floor = s.floor ∧ t.cut? r.id = none ∧
          t.Gave (.cutStaged r.id .withdrawn r.expected r.planned r.cls r.tag r.port none) ∧
          (s.mode ≠ .active → t.cuts = s.cuts.filter (fun x => x.id != r.id) ∧ t.planned = s.planned ∧
            t.holds.has .nextRestricted = false) ∧
          (s.mode = .active → (∀ x ∈ s.cuts, x.state = .staged → x.id = r.id) →
            (s.removeStaged r).stagingLeaves t ∧ t.points = s.points ∧ t.sections = (s.removeStaged r).sections ∧
              t.mode = .active)) ∧
      (s.staged?.any (fun r => r.id.roll == n) = false →
        sent = if s.cuts.any (fun r => r.state != .staged && (r.id.roll == n || r.merged.contains n)) then no .tooLate
          else no .noSuch)

/-- ACCEPT NEXT: DENIED from other ports, WRONG MODE in SETUP, NO SUCH with no STAGED record, CONFLICT naming its roll for
another roll, CONFLICT for a NORMAL cut, DONE for one accepted before; a RESTRICTED cut becomes accepted and NEXT RESTRICTED is
cleared. -/
def Obligations.AcceptNextAcceptsTheStagedCut : Prop :=
  ∀ (p : Port) (tag n : Nat) (s : State), s.ready p → s.Settled →
    let sent := exec (.acceptNext p tag (.fits n)) s
    let answer := fun st d => Host.Outcome.next (φ := Fault) (ρ := Refusal) (s.served p tag 36 ⟨st, d⟩)
    (p ≠ .crest → sent = answer .denied .nothing) ∧
    (p = .crest → s.mode = .setup → sent = answer .wrongMode .nothing) ∧
    (p = .crest → s.mode ≠ .setup → s.staged? = none → sent = answer .noSuch .nothing) ∧
    (p = .crest → s.mode ≠ .setup → ∀ r, s.staged? = some r →
      if r.id.roll ≠ n then sent = answer .conflict (.roll r.id.roll)
      else if r.cls = .normal then sent = answer .conflict .nothing
      else if r.accepted then sent = answer .done .nothing
      else ∃ t, sent = .next t ∧ t.Answered p tag 36 ⟨.done, .nothing⟩ ∧ t.holds.has .nextRestricted = false ∧
        (∀ x, x ≠ .nextRestricted → t.holds.timeOf x = s.holds.timeOf x) ∧ t.holds.urgent = s.holds.urgent ∧
        t.relay = relayJudgement s.mode t.holds ∧
        t = { s with cuts := s.cuts.map (fun x => if x.id = r.id then { x with accepted := true } else x),
                     holds := t.holds, relay := t.relay, ports := t.ports })

/-- The Roll List hears that the STAGED record has left or that room was freed, or of a track's change of state, in ACTIVE with no
STAGED record. With no entry, LIST EMPTY is raised. Else the head entry goes to its track if OPEN, or to that track's alternate
if OPEN; with neither NEXT UNROUTABLE is raised; with 24 records or too few free demand entries CAPACITY is raised; else the entry
leaves the list, its record is STAGED, its demands are inserted, and the three reasons are cleared. -/
def Obligations.StagingFollowsHeadEntry : Prop :=
  ∀ (c : Instr) (s : State), s.powered = true → s.Settled → s.mode = .active → s.staged? = none →
    (c = .stagedRecordLeft ∧ (s.stagedLeftDue = true ∨ s.freedDue = true)) ∨
      (∃ n, c = .trackStateReport n ∧ n ∈ s.trackReportDue) →
    ∃ t, exec c s = .next t ∧ t.floor = s.floor ∧ t.points = s.points ∧ t.sections = s.sections ∧ t.mode = .active ∧
      s.stagingLeaves t

/-- A STAGED record whose destination is reported and no longer OPEN goes to its planned track if OPEN, or to that track's
alternate if OPEN: its path and demands are replaced, the committed counts follow, a CLOSING destination left with none is
CLOSED, and CUT STAGED says RE-PLANNED. With neither OPEN it returns to the head of the list in ACTIVE and, with no record
STAGED then, NEXT UNROUTABLE is raised; with the pool short it returns in the same way and CAPACITY is raised. A report that is
not due changes nothing but lines (log entry 3). -/
def Obligations.ClosedDestinationReturnsStagedCut : Prop :=
  ∀ (n : Nat) (s : State), s.powered = true → s.Settled →
    (n ∉ s.trackReportDue → exec (.trackStateReport n) s = .next s.startLines) ∧
    (∀ r, n ∈ s.trackReportDue → s.mode = .active → s.staged? = some r → r.dest = n → s.trackOpen n = false →
      s.trackOpen r.planned = false → (∀ a, (s.track? r.planned).bind TrackRec.alternate = some a → s.trackOpen a = false) →
      ∃ t, exec (.trackStateReport n) s = .next t ∧
        t.planned = ⟨r.id.roll, r.expected, r.planned, r.cls, r.tag, r.port⟩ :: s.planned ∧
        t.cuts = s.cuts.filter (fun x => x.id != r.id) ∧ (∀ q ∈ t.demands, ∀ d ∈ q.entries, d.cut ≠ r.id) ∧
        t.holds.has .nextRestricted = false ∧
        (t.staged? = none → t.holds.has .nextUnroutable = true ∧ t.relay = false) ∧
        t.Gave (.cutStaged r.id .returned r.expected r.planned r.cls r.tag r.port none)) ∧
    (∀ r dest status, n ∈ s.trackReportDue → s.staged? = some r → r.dest = n → s.trackOpen n = false →
      (s.trackOpen r.planned = true ∧ dest = r.planned ∧ status = .asPlanned) ∨
        (s.trackOpen r.planned = false ∧ (s.track? r.planned).bind TrackRec.alternate = some dest ∧
          s.trackOpen dest = true ∧ status = .alternate) →
      let path := s.layout.pathTo dest
      (path.length ≤ s.poolFree + s.demandCount r.id → ∃ t x, exec (.trackStateReport n) s = .next t ∧
        t.cut? r.id = some x ∧
        x = { r with dest := dest, status := status, path := path, pathEnd := .track, speed := x.speed } ∧
        (∀ c, c ≠ r.id → t.cut? c = s.cut? c) ∧ t.planned = s.planned ∧
        t.demands = ((s.removeDemands r.id (fun _ => true)).insertDemands r.id path).demands ∧
        (t.track? dest).map TrackRec.committed = (s.track? dest).map (fun k => k.committed + 1) ∧
        (t.track? n).map (fun k => (k.state, k.committed)) = (s.track? n).map (fun k =>
          (if k.state = .closing ∧ k.committed ≤ 1 then .closed else k.state, k.committed - 1)) ∧
        t.Gave (.cutStaged r.id .rePlanned r.expected r.planned r.cls r.tag r.port (some (dest, status, path.length)))) ∧
      (s.poolFree + s.demandCount r.id < path.length → s.mode = .active → ∃ t, exec (.trackStateReport n) s = .next t ∧
        t.planned = ⟨r.id.roll, r.expected, r.planned, r.cls, r.tag, r.port⟩ :: s.planned ∧
        t.cuts = s.cuts.filter (fun x => x.id != r.id) ∧ (∀ q ∈ t.demands, ∀ d ∈ q.entries, d.cut ≠ r.id) ∧
        t.holds.has .nextRestricted = false ∧ (t.staged? = none → t.holds.has .capacity = true ∧ t.relay = false) ∧
        t.Gave (.cutStaged r.id .returned r.expected r.planned r.cls r.tag r.port none)))

/-! ### Point Control (R124 to R145) -/

/-- BLOCK POINT. The block is recorded in every state. LOCKED in the blocked position it stays; LOCKED the other way or in FAULT
it moves only with its section empty and PROVEN, the freeze off and no run-in mark: a throw starts, or a FAULT point detected
there alone is LOCKED. Whether it stays LOCKED there or is served so, a head demand for the other position is asked to divert.
The answer gives state, lie and whether served. RESTORE POINT takes the block away and says RESTORED when there was one; the
point stays, but a LOCKED point free to move with a head demand against its lie is thrown toward it, or where the prediction
leaves no time a CATCH-UP is asked for. No such point is NO SUCH whatever the position code (that it is judged first is the
model's choice: log entry 29); no such position is BAD VALUE. -/
def Obligations.BlockAndRestorePoint : Prop :=
  ∀ (tag n : Nat) (s : State), s.ready .crest → s.Settled → s.mode ≠ .setup →
    let block := fun code => exec (.blockPoint .crest tag (.fits ⟨n, code⟩)) s
    let restore := exec (.restorePoint .crest tag (.fits n)) s
    let no := fun code st => Host.Outcome.next (φ := Fault) (ρ := Refusal) (s.served .crest tag code ⟨st, .nothing⟩)
    let free := s.sectionEmpty n = true ∧ s.sectionProven n = true ∧ s.freeze = false
    (s.point? n = none → (∀ k, block k = no 40 .noSuch) ∧ restore = no 41 .noSuch) ∧
    (∀ r, s.point? n = some r →
      (∀ k, 1 < k → block k = no 40 .badValue) ∧
      (∀ k b, (k = 0 ∧ b = .n) ∨ (k = 1 ∧ b = .r) →
        ∃ t x, block k = .next t ∧ t.point? n = some x ∧ x.blocked = some b ∧ (∀ m, m ≠ n → t.point? m = s.point? m) ∧
          t = { s with points := t.points, diversionDue := t.diversionDue, evalDue := s.evalDue, holds := t.holds,
                       relay := t.relay, ports := t.ports } ∧
          t.Answered .crest tag 40 ⟨.done, .blocked x.state x.lie (match x.state with
            | .locked p => p == b
            | .throwing p _ => p == b
            | .fault _ => false)⟩ ∧
          (let asked := t.diversionDue = s.diversionDue ++ (match s.headOf n with
             | some d => if d.pos = b then [] else [⟨d.cut, n, .blocked, b⟩]
             | none => [])
           match r.state with
           | .throwing _ _ => t.diversionDue = s.diversionDue
           | .locked p => (p = b ∨ free → asked) ∧ (p ≠ b → ¬ free → t.diversionDue = s.diversionDue)
           | .fault _ => (r.runIn = false → free → asked) ∧ (r.runIn = true ∨ ¬ free → t.diversionDue = s.diversionDue)) ∧
          (r.state = .locked b → x = { r with blocked := some b }) ∧
          (∀ p, r.state = .locked p → p ≠ b → free →
            x = { r with blocked := some b, state := .throwing b s.now, driveN := b == .n, driveR := b == .r }) ∧
          (∀ p, r.state = .locked p → p ≠ b → ¬ free → x = { r with blocked := some b }) ∧
          (∀ p y, r.state = .throwing p y → x = { r with blocked := some b }) ∧
          (∀ c, r.state = .fault c → r.runIn = true ∨ ¬ free → x = { r with blocked := some b }) ∧
          (∀ c, r.state = .fault c → r.runIn = false → free → r.pair ≠ .alone b →
            x = { r with blocked := some b, state := .throwing b s.now, driveN := b == .n, driveR := b == .r }) ∧
          (∀ c, r.state = .fault c → r.runIn = false → free → r.pair = .alone b →
            x.state = .locked b ∧ x.driveN = false ∧ x.driveR = false)) ∧
      (s.headOf n = none → ∃ t, restore = .next t ∧
        t.point? n = some { r with blocked := none } ∧ (∀ m, m ≠ n → t.point? m = s.point? m) ∧
        t.Answered .crest tag 41 ⟨.done, .restored r.state r.lie⟩ ∧
        t = { s with points := t.points, ports := t.ports }) ∧
      (∃ t x, restore = .next t ∧ t.point? n = some x ∧ (∀ m, m ≠ n → t.point? m = s.point? m) ∧
        t.Answered .crest tag 41 ⟨.done, .restored x.state x.lie⟩ ∧
        t = { s with points := t.points, diversionDue := t.diversionDue, ports := t.ports } ∧
        (r.blocked ≠ none → t.Gave (.pointState (some n) .restored (some ⟨r.state, r.lie, r.last, none, r.runIn⟩))) ∧
        let against := fun (p : Pos) (d : Demand) => r.state = .locked p ∧ s.headOf n = some d ∧ d.pos ≠ p ∧ free
        let effective := match r.measured with
          | some m => max r.timing.allowance (m + 100)
          | none => r.timing.allowance
        (∀ p d, against p d →
          let enough := ∀ y, d.toe = some y →
            effective ≤ YardTime.since y s.now ∧ YardTime.since y s.now < 2147483648
          (enough → t.diversionDue = s.diversionDue ∧
            x = { r with blocked := none, state := .throwing d.pos s.now, driveN := d.pos == .n, driveR := d.pos == .r } ∧
            t.Gave (.pointState (some n) (.throwStarted s.now)
              (some ⟨.throwing d.pos s.now, d.pos, r.last, none, r.runIn⟩))) ∧
          (¬ enough → x = { r with blocked := none } ∧
            t.diversionDue = s.diversionDue ++ [⟨d.cut, n, .catchUp, p⟩])) ∧
        ((∀ p d, ¬ against p d) → x = { r with blocked := none } ∧ t.diversionDue = s.diversionDue)))

/-- FREEZE POINTS, in a REQUEST or an URGENT frame, sets the freeze flag; UNFREEZE clears it and lets every point be evaluated;
a flag that stands already brings no notice. SET POINT TIMING outside 200 to 4000 or 300 to 5000 is BAD VALUE; else the pair is
active at once on a LOCKED point with an empty section, and pending otherwise; of a point that does not exist it is NO SUCH even
with a value out of range (that the point is judged first is the model's choice: log entry 29). The order of UNFREEZE's
evaluations, ascending point number, is the model's choice (log entry 61). -/
def Obligations.FreezeAndTimingRequests : Prop :=
  ∀ (tag : Nat) (s : State), s.Settled → s.mode ≠ .setup →
    (∀ urgent, (urgent = false → s.ready .crest) → (urgent = true → s.readyUrgent .crest) →
      ∃ t, exec (.freezePoints .crest tag urgent (.fits ())) s = .next t ∧
        t.Answered .crest tag 42 ⟨.done, .nothing⟩ ∧ t = { s with freeze := true, ports := t.ports } ∧
        (s.freeze = false → t.Gave (.pointState none .freeze none)) ∧
        (s.freeze = true → ∀ q, (t.ports.get q).given = (s.ports.get q).given)) ∧
    (s.ready .crest →
      (s.freeze = false → exec (.unfreeze .crest tag (.fits ())) s = .next (s.served .crest tag 43 ⟨.done, .nothing⟩)) ∧
      (s.freeze = true → ∃ t, exec (.unfreeze .crest tag (.fits ())) s = .next t ∧
        t.Answered .crest tag 43 ⟨.done, .nothing⟩ ∧ t.Gave (.pointState none .unfreeze none) ∧
        t = { s with freeze := false, evalDue := s.evalDue ++ s.points.map (fun r => ⟨r.num, false⟩), ports := t.ports }) ∧
      ∀ n allowance timeout,
        let sent := exec (.setPointTiming .crest tag (.fits ⟨n, allowance, timeout⟩)) s
        (s.point? n = none → sent = .next (s.served .crest tag 44 ⟨.noSuch, .nothing⟩)) ∧
        (∀ r, s.point? n = some r →
          (allowance < 200 ∨ 4000 < allowance ∨ timeout < 300 ∨ 5000 < timeout →
            sent = .next (s.served .crest tag 44 ⟨.badValue, .nothing⟩)) ∧
          (200 ≤ allowance → allowance ≤ 4000 → 300 ≤ timeout → timeout ≤ 5000 →
            let now := s.sectionEmpty n = true ∧ ∃ p, r.state = .locked p
            ∃ t, sent = .next t ∧ t = { s with points := t.points, ports := t.ports } ∧
              (∀ m, m ≠ n → t.point? m = s.point? m) ∧
              (now → t.point? n = some { r with timing := ⟨allowance, timeout⟩, pendingTiming := none } ∧
                t.Answered .crest tag 44 ⟨.done, .timing true⟩) ∧
              (¬ now → t.point? n = some { r with pendingTiming := some ⟨allowance, timeout⟩ } ∧
                t.Answered .crest tag 44 ⟨.done, .timing false⟩))))

/-- ACK FAULT. A point in FAULT shown alone is LOCKED there, its run-in mark cleared, POINT FAULT and RUN-IN following the points
that remain, and it is evaluated; shown by neither or both it stays in FAULT, CONFLICT with the pair. LOCKED is DONE and THROWING
CONFLICT, with nothing done but an evaluation due (log entry 31). A sensor's count becomes 0 and a DISTURBED one becomes
STANDING or NORMAL. -/
def Obligations.AckFaultRecoversPointOrSensor : Prop :=
  ∀ (tag : Nat) (s : State), s.ready .crest → s.Settled → s.mode ≠ .setup →
    (∀ n, let sent := exec (.ackFault .crest tag (.fits (.point n))) s
      (s.point? n = none → sent = .next (s.served .crest tag 45 ⟨.noSuch, .nothing⟩)) ∧
      (∀ r, s.point? n = some r →
        (∀ p, r.state = .locked p → sent = .next
          (({ s with evalDue := s.evalDue ++ [⟨n, false⟩] } : State).served .crest tag 45 ⟨.done, .pointState r.state⟩)) ∧
        (∀ p y, r.state = .throwing p y → sent = .next
          (({ s with evalDue := s.evalDue ++ [⟨n, false⟩] } : State).served .crest tag 45 ⟨.conflict, .pointState r.state⟩)) ∧
        (∀ c, r.state = .fault c → ∃ t x, sent = .next t ∧ t.point? n = some x ∧ x.runIn = false ∧
          (∀ m, m ≠ n → t.point? m = s.point? m) ∧
          t = { s with points := t.points, evalDue := s.evalDue ++ [⟨n, false⟩], holds := t.holds, relay := t.relay,
                       ports := t.ports } ∧
          (∀ y, y ≠ .pointFault → y ≠ .runIn → t.holds.timeOf y = s.holds.timeOf y) ∧
          (∀ p, r.pair = .alone p → x.state = .locked p ∧ x.driveN = false ∧ x.driveR = false ∧
            t.Answered .crest tag 45 ⟨.done, .position p⟩ ∧
            ((∀ y ∈ t.points, ∀ d, y.state ≠ .fault d) → t.holds.has .pointFault = false)) ∧
          ((∃ y ∈ t.points, ∃ d, y.state = .fault d) → t.holds.timeOf .pointFault = s.holds.timeOf .pointFault) ∧
          (r.runIn = false ∨ (∃ y ∈ t.points, y.runIn = true) → t.holds.timeOf .runIn = s.holds.timeOf .runIn) ∧
          (r.runIn = true → (∀ y ∈ t.points, y.runIn = false) → t.holds.has .runIn = false) ∧
          ((∀ p, r.pair ≠ .alone p) → x.state = r.state ∧ t.Answered .crest tag 45 ⟨.conflict, .pair r.pair⟩)))) ∧
    (∀ i, let sent := exec (.ackFault .crest tag (.fits (.sensor i))) s
      let named := if i = 1 then some Sensor.k
        else if 2 ≤ i ∧ i ≤ 127 then some (.out (i / 2) (if i % 2 = 0 then .n else .r)) else none
      (named.bind s.sensor? = none → sent = .next (s.served .crest tag 45 ⟨.noSuch, .nothing⟩)) ∧
      (∀ r, named.bind s.sensor? = some r → ∃ t, sent = .next t ∧
        t.Answered .crest tag 45 ⟨.done, .nothing⟩ ∧ t = { s with sensors := t.sensors, ports := t.ports } ∧
        t.sensor? r.sensor = some { r with disturb := 0, condition :=
          if r.condition = .disturbed then
            (if (r.a.level = true ∧ r.a.timer = .expired) ∨ (r.b.level = true ∧ r.b.timer = .expired) then .standing
             else .normal)
          else r.condition } ∧
        ∀ x, x ≠ r.sensor → t.sensor? x = s.sensor? x))

/-- An evaluation of a LOCKED point without a block: nothing where no demand stands at the head, it needs the lie, or the point
is not free to move; a throw toward it when there is no prediction or the remaining time covers the effective allowance and has
not run out; else a CATCH-UP request. A point blocked where it lies asks for a BLOCKED diversion; one blocked the other way is
thrown to its block when it is free to move, with a BLOCKED request for a head demand against the block, and is left when it is
not; a THROWING point is left. A point in FAULT acts toward its block alone: blocked, not marked, free to move and not evaluated
after the end of a throw, it is LOCKED there with its pending timing taken when its pair shows that position alone, else thrown
there; a head demand for the other position is asked to divert, and POINT FAULT ends with the last point in FAULT; in every
other case it is left. An evaluation that is not due does nothing (log entry 3). -/
def Obligations.EvaluationThrowsDivertsOrWaits : Prop :=
  ∀ (n : Nat) (after : Bool) (rest : List EvalDue) (r : PointRec) (s : State), s.powered = true → s.Settled →
    s.point? n = some r →
    let sent := exec (.pointEvaluation n) s
    let quiet := ({ s with evalDue := rest } : State)
    let free := s.sectionEmpty n = true ∧ s.sectionProven n = true ∧ s.freeze = false
    let effective := match r.measured with
      | some m => max r.timing.allowance (m + 100)
      | none => r.timing.allowance
    let away := fun (b : Pos) => match s.headOf n with
      | some d => if d.pos = b then [] else [⟨d.cut, n, .blocked, b⟩]
      | none => []
    let thrown := fun (b : Pos) (asked : List DivReq) => ∃ t, sent = .next t ∧
      t.point? n = some { r with state := .throwing b s.now, driveN := b == .n, driveR := b == .r } ∧
      (∀ m, m ≠ n → t.point? m = s.point? m) ∧
      t.Gave (.pointState (some n) (.throwStarted s.now) (some ⟨.throwing b s.now, b, r.last, r.blocked, r.runIn⟩)) ∧
      t = { s with evalDue := rest, points := t.points, diversionDue := s.diversionDue ++ asked, ports := t.ports }
    ((∀ e ∈ s.evalDue, e.point ≠ n) → sent = .next s.startLines) ∧
    (s.evalDue = ⟨n, after⟩ :: rest →
      (∀ p y, r.state = .throwing p y → sent = .next quiet.startLines) ∧
      (∀ p, r.state = .locked p → r.blocked = none →
        ((s.headOf n = none ∨ ¬ free ∨ ∃ d, s.headOf n = some d ∧ d.pos = p) → sent = .next quiet.startLines) ∧
        (∀ d, s.headOf n = some d → d.pos ≠ p → free →
          let enough := ∀ y, d.toe = some y →
            effective ≤ YardTime.since y s.now ∧ YardTime.since y s.now < 2147483648
          (enough → thrown d.pos []) ∧
          (¬ enough → sent = .next ({ quiet with
            diversionDue := s.diversionDue ++ [⟨d.cut, n, .catchUp, p⟩] } : State).startLines))) ∧
      (∀ p, r.state = .locked p → r.blocked = some p →
        sent = .next ({ quiet with diversionDue := s.diversionDue ++ away p } : State).startLines) ∧
      (∀ p b, r.state = .locked p → r.blocked = some b → b ≠ p →
        (free → thrown b (away b)) ∧ (¬ free → sent = .next quiet.startLines)) ∧
      (∀ c, r.state = .fault c →
        (r.blocked = none ∨ r.runIn = true ∨ ¬ free ∨ after = true → sent = .next quiet.startLines) ∧
        (∀ b, r.blocked = some b → r.runIn = false → free → after = false → ∃ t x, sent = .next t ∧
          t.point? n = some x ∧ (∀ m, m ≠ n → t.point? m = s.point? m) ∧
          (r.pair = .alone b →
            x = { r with state := .locked b, driveN := false, driveR := false,
                         timing := r.pendingTiming.getD r.timing, pendingTiming := none } ∧
            t.Gave (.pointState (some n) (.locked none false) (some ⟨.locked b, b, r.last, some b, false⟩))) ∧
          (r.pair ≠ .alone b →
            x = { r with state := .throwing b s.now, driveN := b == .n, driveR := b == .r } ∧
            t.Gave (.pointState (some n) (.throwStarted s.now) (some ⟨.throwing b s.now, b, r.last, some b, false⟩))) ∧
          t.diversionDue = s.diversionDue ++ away b ∧
          (∀ y, y ≠ .pointFault → t.holds.timeOf y = s.holds.timeOf y) ∧
          ((∃ y ∈ t.points, ∃ k, y.state = .fault k) → t.holds = s.holds) ∧
          ((∀ y ∈ t.points, ∀ k, y.state ≠ .fault k) → t.holds.has .pointFault = false) ∧
          t = { s with evalDue := rest, points := t.points, diversionDue := t.diversionDue, holds := t.holds,
                       relay := t.relay, ports := t.ports })))

/-- A raw edge at a detection input waits 20 ms to qualify and a return before that discards it. A throw whose target shows alone
ends LOCKED, drives off, with its measured time and an evaluation, or in FAULT with cause RUN-IN when marked. A LOCKED point that
loses its position, shows the other or shows both goes to FAULT, and POINT FAULT is raised. Both positions during a throw end it in
FAULT with cause DETECTION CONFLICT, or RUN-IN when marked; neither, or the origin alone, lets it go on. In FAULT an event changes
the last detected position alone. A throw that has run for the timeout ends in FAULT; a timeout before its time does nothing (log
entry 3). -/
def Obligations.DetectionAndTimeoutEndThrows : Prop :=
  ∀ (n : Nat) (r : PointRec) (s : State), s.powered = true → s.Settled → s.point? n = some r →
    let faulted := fun (t : State) (x : PointRec) (c : FaultCause) => t.point? n = some x ∧ x.state = .fault c ∧
      x.driveN = false ∧ x.driveR = false ∧ (∀ m, m ≠ n → t.point? m = s.point? m) ∧
      t.holds.has .pointFault = true ∧ t.relay = false ∧
      t = { s with points := t.points, evalDue := t.evalDue, holds := t.holds, relay := t.relay, ports := t.ports }
    (∀ o level, s.detPins.contains (n, o) ≠ level →
      let old := match o with
        | .n => r.detN
        | .r => r.detR
      ∃ t, exec (.detectionInputEdge n o level) s = .next t ∧ t.detPins.contains (n, o) = level ∧
        t = { s with detPins := t.detPins, points := t.points, ports := t.ports } ∧
        (∀ m, m ≠ n → t.point? m = s.point? m) ∧
        (old.owed = [] → (t.point? n).map (fun x => match o with
          | .n => x.detN
          | .r => x.detR) = some (⟨old.level, [⟨level, s.clock⟩]⟩ : DetInput)) ∧
        (∀ e, old.owed = [e] → s.clock < e.edge + 2000 → (t.point? n).map (fun x => match o with
          | .n => x.detN
          | .r => x.detR) = some (⟨old.level, []⟩ : DetInput))) ∧
    (∀ p start k, r.state = .throwing p start → k + 2000 ≤ s.clock →
      (p = .n ∧ r.detN = ⟨false, [⟨true, k⟩]⟩ ∧ r.detR = ⟨false, []⟩) ∨
        (p = .r ∧ r.detR = ⟨false, [⟨true, k⟩]⟩ ∧ r.detN = ⟨false, []⟩) →
      let m := YardTime.since (yardOf (k + 2000)) start
      ∃ t x, exec (.detectionEvent n) s = .next t ∧ t.evalDue = s.evalDue ++ [⟨n, true⟩] ∧
        (r.runIn = true → faulted t x .runIn ∧ x.measured = some m ∧ x.last = some p) ∧
        (r.runIn = false → t.point? n = some x ∧ x.state = .locked p ∧ x.last = some p ∧ x.measured = some m ∧
          x.driveN = false ∧ x.driveR = false ∧ (∀ j, j ≠ n → t.point? j = s.point? j) ∧
          t.Gave (.pointState (some n) (.locked (some m) (decide (80 * r.timing.allowance < m * 100)))
            (some ⟨.locked p, p, some p, r.blocked, false⟩)) ∧
          t = { s with points := t.points, evalDue := t.evalDue, ports := t.ports })) ∧
    (∀ p k, r.state = .locked p → k + 2000 ≤ s.clock →
      ((p = .n ∧ r.detN = ⟨true, [⟨false, k⟩]⟩ ∧ r.detR = ⟨false, []⟩) ∨
          (p = .r ∧ r.detR = ⟨true, [⟨false, k⟩]⟩ ∧ r.detN = ⟨false, []⟩) →
        ∃ t x, exec (.detectionEvent n) s = .next t ∧ faulted t x .detectionLost ∧ x.last = r.last ∧
          t.evalDue = s.evalDue) ∧
      ((p = .n ∧ r.detR = ⟨false, [⟨true, k⟩]⟩ ∧ r.detN = ⟨true, []⟩) ∨
          (p = .r ∧ r.detN = ⟨false, [⟨true, k⟩]⟩ ∧ r.detR = ⟨true, []⟩) →
        ∃ t x, exec (.detectionEvent n) s = .next t ∧ faulted t x .detectionConflict ∧ t.evalDue = s.evalDue)) ∧
    (∀ p start, r.state = .throwing p start →
      (YardTime.since s.now start < r.timing.timeout → exec (.throwTimeout n) s = .next s.startLines) ∧
      (r.timing.timeout ≤ YardTime.since s.now start → ∃ t x, exec (.throwTimeout n) s = .next t ∧
        faulted t x (if r.runIn then .runIn else .throwTimeout) ∧ x.measured = r.measured ∧ x.last = r.last ∧
        t.evalDue = s.evalDue ++ [⟨n, true⟩])) ∧
    (∀ (o : Pos) (level still : Bool) (k : Nat), k + 2000 ≤ s.clock →
      (o = .n ∧ r.detN = ⟨!level, [⟨level, k⟩]⟩ ∧ r.detR = ⟨still, []⟩) ∨
        (o = .r ∧ r.detR = ⟨!level, [⟨level, k⟩]⟩ ∧ r.detN = ⟨still, []⟩) →
      let normal := match o with
        | .n => level
        | .r => still
      let reverse := match o with
        | .n => still
        | .r => level
      let seen := { r with
        detN := ⟨normal, []⟩, detR := ⟨reverse, []⟩,
        last := if normal = reverse then r.last else some (if normal then .n else .r) }
      let shows := fun (p : Pos) => match p with
        | .n => normal = true ∧ reverse = false
        | .r => normal = false ∧ reverse = true
      ∃ t x, exec (.detectionEvent n) s = .next t ∧ t.point? n = some x ∧
        let followed := x = seen ∧ (∀ m, m ≠ n → t.point? m = s.point? m) ∧
          t = { s with points := t.points, ports := t.ports }
        let lost := fun (c : FaultCause) (ended : Option ThrowEnd) => faulted t x c ∧
          x = { seen with state := .fault c, driveN := false, driveR := false } ∧
          t.Gave (.pointState (some n) (.fault ended none) (some ⟨.fault c, seen.last.getD .n, seen.last, r.blocked, r.runIn⟩))
        (∀ p, r.state = .locked p →
          (shows p → followed) ∧
          (normal = true → reverse = true → lost .detectionConflict none ∧ t.evalDue = s.evalDue) ∧
          (¬ shows p → ¬ (normal = true ∧ reverse = true) → lost .detectionLost none ∧ t.evalDue = s.evalDue)) ∧
        (∀ p start, r.state = .throwing p start →
          (normal = true → reverse = true →
            lost (if r.runIn then .runIn else .detectionConflict) (some .conflict) ∧
            t.evalDue = s.evalDue ++ [⟨n, true⟩]) ∧
          (¬ shows p → ¬ (normal = true ∧ reverse = true) → followed)) ∧
        (∀ c, r.state = .fault c → followed))

/-! ### Routes (R109 to R117) -/

/-- SPEED REPORT from the Speed port: BAD VALUE outside 20 to 1500 cm/s, NO SUCH without the record or the point on its path,
TOO LATE once the head has left the point or is in a track; else the record keeps the report in place of any other, and the
cut's demands are predicted anew. With the head at the entry sensor of a step, the demand at a later step is predicted at the
head's time plus the distance (the outlet lengths between and the toe distance) over the speed, shortened by the early factor:
the report's speed while the head is inside the report's point, else the head's own, else none; a stalled cut and one without a
head report have none. Points whose head entry changed are evaluated later. That the head has left the point is read from the
exit register of its section (log entry 32). The order of the evaluations due, ascending point number, is the model's choice
(log entry 61). -/
def Obligations.SpeedReportIsKeptForPredictions : Prop :=
  ∀ (tag : Nat) (a : SpeedArgs) (s : State), s.ready .speed → s.Settled → s.mode ≠ .setup →
    let sent := exec (.speedReport .speed tag (.fits a)) s
    let no := fun st => Host.Outcome.next (φ := Fault) (ρ := Refusal) (s.served .speed tag 56 ⟨st, .nothing⟩)
    if a.speed < 20 ∨ 1500 < a.speed then sent = no .badValue
    else (s.cut? a.cut = none → sent = no .noSuch) ∧
      (∀ r, s.cut? a.cut = some r →
        if r.path.any (fun st => st.point == a.point) = false then sent = no .noSuch
        else if r.frontier = none ∨ (∃ x, s.sectionAt? a.point = some x ∧ ∃ e ∈ x.exits, e.cut = a.cut) then
          sent = no .tooLate
        else ∃ t, sent = .next t ∧ t.Answered .speed tag 56 ⟨.done, .nothing⟩ ∧
          t = { s with cuts := s.cuts.map (fun x => if x.id = a.cut then { x with speed := some ⟨a.point, a.speed⟩ } else x),
                       demands := t.demands, evalDue := t.evalDue, ports := t.ports } ∧
          t.demands.map (fun q => (q.point, q.entries.map (fun d => (d.cut, d.pos)))) =
            s.demands.map (fun q => (q.point, q.entries.map (fun d => (d.cut, d.pos)))) ∧
          t.evalDue = s.evalDue ++
            ((t.demands.filter (fun q => t.headOf q.point != s.headOf q.point)).map (fun q => ⟨q.point, false⟩)) ∧
          (r.stalled = true ∨ r.head = none → ∀ q, ∀ d ∈ t.queueOf q, d.cut = a.cut → d.toe = none) ∧
          (∀ h above j mid q below, r.stalled = false → r.head = some h → r.path = above ++ j :: mid ++ q :: below →
            (∀ st ∈ above, s.layout.entrySensor st.point ≠ h.sensor) → s.layout.entrySensor j.point = h.sensor →
            (∀ st ∈ j :: mid, st.point ≠ q.point) →
            let distance := s.layout.lengthOf j + (mid.map s.layout.lengthOf).sum + s.layout.toeOf q.point
            let speed := if s.layout.entrySensor a.point = h.sensor then some a.speed else h.speed
            ∀ d ∈ t.queueOf q.point, d.cut = a.cut → d.toe = speed.map (fun v =>
              h.time + BitVec.ofNat 32 (distance * 10 * s.layout.earlyFactor / v))))

/-- REROUTE CUT: DENIED from other ports, WRONG MODE in SETUP, NO SUCH without record or track; TOO LATE for a moving record
whose head is in a track, is beyond an OPEN path's end, or has left the ways to the track; CONFLICT for a STAGED record and a
track not OPEN, or a moving one and a track CLOSING or CLOSED; DONE with no change for its own destination; FULL when the pool
is short; else the steps before the frontier stay, those from there on lead to the new track, the record is REROUTED and the
answer gives the path. -/
def Obligations.RerouteReplacesTheStepsAhead : Prop :=
  ∀ (p : Port) (tag : Nat) (a : RerouteArgs) (s : State), s.ready p → s.Settled →
    let sent := exec (.rerouteCut p tag (.fits a)) s
    let answer := fun st => Host.Outcome.next (φ := Fault) (ρ := Refusal) (s.served p tag 49 ⟨st, .nothing⟩)
    (p ≠ .crest → sent = answer .denied) ∧
    (p = .crest → s.mode = .setup → sent = answer .wrongMode) ∧
    (p = .crest → s.mode ≠ .setup → s.cut? a.cut = none ∨ s.track? a.track = none → sent = answer .noSuch) ∧
    (p = .crest → s.mode ≠ .setup → ∀ r k, s.cut? a.cut = some r → s.track? a.track = some k →
      let moving := r.state = .forming ∨ r.state = .rolling
      let late := r.frontier = none ∨
        (r.pathEnd = .opened ∧ ∃ st h, r.path.getLast? = some st ∧ r.head = some h ∧
          s.layout.sensorAtOrBelow st.point h.sensor = true) ∨
        (∃ f st, r.frontier = some (f + 1) ∧ r.path[f]? = some st ∧ s.layout.isBelow st a.track = false)
      let conflict := (r.state = .staged ∧ k.state ≠ .opened) ∨
        (moving ∧ (k.state = .closing ∨ k.state = .closed))
      let steps := (s.layout.pathTo a.track).drop (r.frontier.getD 0)
      (moving ∧ late → sent = answer .tooLate) ∧
      (¬ (moving ∧ late) → conflict → sent = answer .conflict) ∧
      (¬ (moving ∧ late) → ¬ conflict → a.track = r.dest → r.pathEnd = .track → sent = answer .done) ∧
      (¬ (moving ∧ late) → ¬ conflict → ¬ (a.track = r.dest ∧ r.pathEnd = .track) →
        (s.poolFree + s.demandCount a.cut < steps.length → sent = answer .full) ∧
        (steps.length ≤ s.poolFree + s.demandCount a.cut →
          let path := r.path.take (r.frontier.getD 0) ++ steps
          ∃ t x, sent = .next t ∧ t.Answered p tag 49 ⟨.done, .path path⟩ ∧ t.cut? a.cut = some x ∧
            x = { r with path := path, pathEnd := .track, dest := a.track, status := .rerouted, speed := x.speed } ∧
            (∀ c, c ≠ a.cut → t.cut? c = s.cut? c) ∧ t.planned = s.planned ∧ t.holds = s.holds ∧ t.points = s.points ∧
            (a.track ≠ r.dest →
              (t.track? a.track).map TrackRec.committed = (s.track? a.track).map (fun y => y.committed + 1) ∧
              (t.track? r.dest).map TrackRec.committed = (s.track? r.dest).map (fun y => y.committed - 1)))))

/-- A CATCH-UP or BLOCKED request that still applies diverts its cut at the point: to the alternate of its planned track if OPEN
below the outlet, else the lie track if OPEN, else the lowest OPEN track below, else (a moving cut) the lie track. The steps above
stay, the step takes the outlet, with room the steps below lead to the new track, the record is DIVERTED. With the pool short,
counting the entries the diversion frees, the path ends OPEN at the last step that has an entry, and CAPACITY is raised. With no
such track, no such record or no such demand, nothing changes but that the request is taken. -/
def Obligations.DiversionFollowsTheDiversionRule : Prop :=
  ∀ (c : CutId) (n : Nat) (cause : RequestCause) (o : Pos) (rest : List DivReq) (s : State), s.powered = true →
    s.Settled → s.diversionDue = ⟨c, n, cause, o⟩ :: rest →
    let sent := exec (.diversionRequest c n cause o) s
    let quiet := Host.Outcome.next (φ := Fault) (ρ := Refusal) ({ s with diversionDue := rest } : State).startLines
    (s.cut? c = none → sent = quiet) ∧
    (∀ r, s.cut? c = some r →
      let alt := (s.track? r.planned).bind TrackRec.alternate
      let applies := ∃ f, r.frontier = some f ∧ (∃ st ∈ r.path.drop f, st.point = n) ∧
        ∃ d, s.demandOf c n = some d ∧ d.pos ≠ o
      (¬ applies → sent = quiet) ∧
      (applies → ∀ dest,
        (∃ x, alt = some x ∧ s.layout.isBelow ⟨n, o⟩ x = true ∧ s.trackOpen x = true ∧ dest = some x) ∨
        ((∀ x, alt = some x → s.layout.isBelow ⟨n, o⟩ x = false ∨ s.trackOpen x = false) ∧
          ((∃ y, s.lieTrack ⟨n, o⟩ = some y ∧ s.trackOpen y = true ∧ dest = some y) ∨
            ((∀ y, s.lieTrack ⟨n, o⟩ = some y → s.trackOpen y = false) ∧
              ((∃ y, (s.layout.tracksBelow ⟨n, o⟩).find? s.trackOpen = some y ∧ dest = some y) ∨
                ((s.layout.tracksBelow ⟨n, o⟩).find? s.trackOpen = none ∧
                  dest = if r.state = .staged then none else s.lieTrack ⟨n, o⟩))))) →
        (dest = none → sent = quiet) ∧
        (∀ y, dest = some y → ∃ t x, sent = .next t ∧ t.diversionDue = rest ∧ t.cut? c = some x ∧
          x.dest = y ∧ x.status = .diverted ∧ x.frontier = r.frontier ∧ x.planned = r.planned ∧ x.state = r.state ∧
          (∀ k, k ≠ c → t.cut? k = s.cut? k) ∧ t.points = s.points ∧ t.planned = s.planned ∧
          (y ≠ r.dest → (s.track? y).map TrackRec.state = some .closed → t.holds.has .intrusion = true ∧
            (t.track? y).map TrackRec.state = some .closing) ∧
          ((s.layout.pathBelow n y).length ≤ s.poolFree → x.pathEnd = .track ∧
            x.path = r.path.takeWhile (fun st => st.point != n) ++ ⟨n, o⟩ :: s.layout.pathBelow n y ∧
            t.Gave (.cutDiverted c (match cause with
              | .catchUp => .catchUp
              | .blocked => .blocked) (some ⟨n, o⟩) r.dest y .diverted x.path.length .track)) ∧
          let above := r.path.takeWhile (fun st => st.point != n)
          let old := r.path.drop (above.length + 1)
          let stripped := s.removeDemands c (fun m => old.any (fun st => st.point == m))
          let steps := s.layout.pathBelow n y
          x.path = above ++ ⟨n, o⟩ :: steps.take stripped.poolFree ∧
          x.pathEnd = (if stripped.poolFree < steps.length then .opened else .track) ∧
          t.demands.map (fun q => (q.point, q.entries.map (fun d => (d.cut, d.pos)))) =
            ((stripped.modQueue n (fun q => q.map (fun d => if d.cut = c then { d with pos := o } else d))).insertDemands c
              (steps.take stripped.poolFree)).demands.map (fun q => (q.point, q.entries.map (fun d => (d.cut, d.pos)))) ∧
          (stripped.poolFree < steps.length → t.holds.has .capacity = true ∧ t.relay = false) ∧
          t.Gave (.cutDiverted c (match cause with
              | .catchUp => .catchUp
              | .blocked => .blocked) (some ⟨n, o⟩) r.dest y .diverted x.path.length x.pathEnd))))

/-! ### Sections and timers (R57, R59, R88) -/

/-- CLEAR SECTION of one point: NO SUCH, or CONFLICT with the first DISTURBED sensor that bounds the section (in the order entry
sensor, P-N, P-R: log entry 36), or the list is emptied, the section PROVEN, its dwell STOPPED, and the answer counts identified
and UNIDENTIFIED axles; a lone cut loses its held axles or retires, with CUT ARRIVED, its head not reached when it has no
arrived axles (log entry 48); with no UNPROVEN section left UNPROVEN is cleared. A section that so becomes empty or PROVEN
leaves an evaluation due, ahead of those of changed head demands (log entry 61), and its LOCKED point's pending timing is taken;
that a section already empty which only becomes PROVEN takes it as well is the model's choice (log entry 22). Of "all": CONFLICT
with the first section so bounded, or every section is cleared. -/
def Obligations.ClearSectionEmptiesAndProves : Prop :=
  ∀ (tag : Nat) (s : State), s.ready .crest → s.Settled → s.mode ≠ .setup →
    let sent := fun n => exec (.clearSection .crest tag (.fits n)) s
    let answer := fun st d => Host.Outcome.next (φ := Fault) (ρ := Refusal) (s.served .crest tag 48 ⟨st, d⟩)
    let disturbed := fun x => match s.sensor? x with
      | some q => q.condition == .disturbed
      | none => false
    let bound := fun n => [s.layout.entrySensor n, Sensor.out n .n, Sensor.out n .r].find? disturbed
    let axles := fun (named : Bool) (l : List OccEntry) => ((l.filter (fun e => (match e.occ with
      | .cut _ => true
      | .unidentified => false) == named)).map OccEntry.count).sum
    (∀ n, n ≠ 0 → s.sectionAt? n = none → sent n = answer .noSuch .nothing) ∧
    (∀ n r, n ≠ 0 → s.sectionAt? n = some r →
      (∀ x, bound n = some x → sent n = answer .conflict (.sensor x)) ∧
      (bound n = none → ∃ t y, sent n = .next t ∧
        (let lists := (s.sections.filter (fun y => y.point == n)).map SectionRec.occ
         t.Answered .crest tag 48 ⟨.done, .cleared (lists.map (axles true)).sum (lists.map (axles false)).sum⟩) ∧
        t.sectionAt? n = some y ∧ y.proven = true ∧ y.occ = [] ∧ y.dwell = .stopped ∧
        t.sections.map (fun y => (y.point, if y.point = n then [] else y.occ)) =
          s.sections.map (fun y => (y.point, if y.point = n then [] else y.occ)) ∧
        t.planned = s.planned ∧ t.custody = s.custody ∧ t.sensors = s.sensors ∧ t.freeze = s.freeze ∧
        (∀ h, h ≠ .unproven → h ≠ .stall → t.holds.timeOf h = s.holds.timeOf h) ∧
        ((∀ y ∈ t.sections, y.proven = true) → t.holds.has .unproven = false) ∧
        (if r.occ = [] ∧ r.proven = true then t.points = s.points ∧ t.evalDue = s.evalDue
          else t.points = s.points.map (fun q => if q.num = n then q.timed else q) ∧
            ∃ l, t.evalDue = s.evalDue ++ ⟨n, false⟩ :: l) ∧
        (∀ c k z, r.occ = [⟨.cut c, k⟩] → s.cut? c = some z →
          if z.state = .rolling ∧ z.arrived = z.held - k then t.cut? c = none ∧
            t.Gave (.cutArrived c z.dest z.arrived z.arrived z.expected z.merged (z.frontier.isNone && z.arrived != 0))
          else (t.cut? c).map CutRec.held = some (z.held - k)))) ∧
    (∀ r, s.sections.find? (fun r => (bound r.point).isSome) = some r → sent 0 = answer .conflict (.point r.point)) ∧
    ((∀ r ∈ s.sections, bound r.point = none) → ∃ t, sent 0 = .next t ∧
      t.Answered .crest tag 48 ⟨.done, .cleared (s.sections.map (fun r => axles true r.occ)).sum
        (s.sections.map (fun r => axles false r.occ)).sum⟩ ∧
      t.sections.map SectionRec.point = s.sections.map SectionRec.point ∧ t.holds.has .unproven = false ∧
      (∀ m z, s.sectionAt? m = some z → ¬ (z.occ = [] ∧ z.proven = true) → (⟨m, false⟩ : EvalDue) ∈ t.evalDue ∧
        t.point? m = (s.point? m).map PointRec.timed) ∧
      ∀ r ∈ t.sections, r.proven = true ∧ r.occ = [] ∧ r.dwell = .stopped)

/-- A dwell timer that has run for the limit expires: CUT STALLED of the head entry, its count the head entry's alone also where
it is UNIDENTIFIED (log entry 37), STALL raised, the cut's stalled mark set and its predictions absent. A gap timer that has run
out returns the crest to IDLE: the current cut becomes ROLLING, and retires when all its axles have arrived (its notice says
that the head reached when the frontier is absent and it holds axles: log entry 48); an unidentified run ends. Before its time
neither does anything (log entry 3). -/
def Obligations.DwellAndGapTimersExpire : Prop :=
  ∀ (n : Nat) (s : State), s.powered = true → s.Settled →
    (∀ r start, s.sectionAt? n = some r → r.dwell = .running start →
      (YardTime.since s.now start < s.layout.dwellMs → exec (.dwellTimerExpiry n) s = .next s.startLines) ∧
      (s.layout.dwellMs ≤ YardTime.since s.now start → ∃ t, exec (.dwellTimerExpiry n) s = .next t ∧
        t.sectionAt? n = some { r with dwell := .expired start } ∧ (∀ m, m ≠ n → t.sectionAt? m = s.sectionAt? m) ∧
        t.holds.has .stall = true ∧ (∀ h, h ≠ .stall → t.holds.timeOf h = s.holds.timeOf h) ∧ t.relay = false ∧
        t = { s with sections := t.sections, cuts := t.cuts, demands := t.demands, evalDue := t.evalDue,
                     holds := t.holds, relay := t.relay, ports := t.ports } ∧
        (∀ e, r.occ.head? = some e → t.Gave (.cutStalled n e.occ e.count)) ∧
        (∀ c k z, r.occ.head? = some ⟨.cut c, k⟩ → s.cut? c = some z → t.cut? c = some { z with stalled := true } ∧
          (z.stalled = false → ∀ q ∈ t.demands, ∀ d ∈ q.entries, d.cut = c → d.toe = none)) ∧
        (∀ k, r.occ.head? = some ⟨.unidentified, k⟩ → t.cuts = s.cuts ∧ t.demands = s.demands))) ∧
    (∀ e, s.crest.phase = .separating → s.crest.gap = some e →
      (2147483648 ≤ YardTime.since s.now e → exec .gapTimerExpiry s = .next s.startLines) ∧
      (YardTime.since s.now e < 2147483648 →
        (∀ c z, s.crest.current = some (.cut c) → s.cut? c = some z → ∃ t, exec .gapTimerExpiry s = .next t ∧
          t.crest = { s.crest with phase := .idle, current := none, countdown := 0, overlength := 0, gap := none } ∧
          t.planned = s.planned ∧ t.points = s.points ∧ t.holds = s.holds ∧
          if z.arrived = z.held then t.cut? c = none ∧ t.freedDue = true ∧
            t.Gave (.cutArrived c z.dest z.held z.arrived z.expected z.merged (z.frontier.isNone && z.held != 0))
          else t.cut? c = some { z with state := .rolling } ∧ t = { s with crest := t.crest, cuts := t.cuts, ports := t.ports }) ∧
        (s.crest.current = some .unidentified →
          exec .gapTimerExpiry s = .next ({ s with crest := Crest.idle } : State).startLines)))

/-! ### Tracks and custody (R152 to R168) -/

/-- Each track request names a track of the layout (else NO SUCH) for which the port's table holds CLOSE (else NO RIGHT). CLOSE
TRACK closes an uncommitted track and makes a committed one CLOSING; OPEN TRACK opens a CLOSED or CLOSING track to OPEN or FULL
by its fill; PULL RECORD of a CLOSED track sets a fill not above the present one and forgets the last arrival; SET CAPACITY, 1
to 1000, judges OPEN and FULL again; SET ALTERNATE takes another track of the layout or none, and in ACTIVE with no STAGED
record brings a staging attempt. A change of state, and every PULL RECORD, SET CAPACITY and SET ALTERNATE that is done, gives
TRACK STATE, and a change of state a report of the track; nothing else changes. -/
def Obligations.TrackRequestsChangeTheirTrack : Prop :=
  ∀ (p : Port) (tag n v : Nat) (s : State), s.ready p → s.Settled → s.mode ≠ .setup → p ≠ .speed →
    let close := exec (.closeTrack p tag (.fits n)) s
    let opn := exec (.openTrack p tag (.fits n)) s
    let pull := exec (.pullRecord p tag (.fits ⟨n, v⟩)) s
    let cap := exec (.setCapacity p tag (.fits ⟨n, v⟩)) s
    let alt := fun a => exec (.setAlternate p tag (.fits ⟨n, a⟩)) s
    let answer := fun code st d => Host.Outcome.next (φ := Fault) (ρ := Refusal) (s.served p tag code ⟨st, d⟩)
    let all := fun st => close = answer 64 st .nothing ∧ opn = answer 65 st .nothing ∧ pull = answer 66 st .nothing ∧
      cap = answer 67 st .nothing ∧ ∀ a, alt a = answer 68 st .nothing
    let right := (s.custody.get p).slots.any (fun g => match g with
      | some g => g.track == n && g.rights.close
      | none => false)
    let told := fun (t : State) (r x : TrackRec) (cause : TrackCause) (always : Prop) (before : Option Nat) =>
      (always ∨ x.state ≠ r.state →
        t.Gave (.trackState n cause x.state r.state x.fill x.capacity x.committed x.alternate none before)) ∧
      (¬ always → x.state = r.state → ∀ q, (t.ports.get q).given = (s.ports.get q).given)
    let changed := fun (r : TrackRec) (o : Result) (x : TrackRec) (cause : TrackCause) (always : Prop)
        (before : Option Nat) (code : Nat) (d : AnswerData) => ∃ t, o = .next t ∧
      t.track? n = some x ∧ (∀ m, m ≠ n → t.track? m = s.track? m) ∧ t.Answered p tag code ⟨.done, d⟩ ∧
      told t r x cause always before ∧
      t = { s with tracks := t.tracks, ports := t.ports,
                   trackReportDue := s.trackReportDue ++ (if x.state = r.state then [] else [n]) }
    let judged := fun (x : TrackRec) => if x.fill < x.capacity then TrackState.opened else .full
    (s.track? n = none → all .noSuch) ∧
    (∀ r, s.track? n = some r → right = false → all .noRight) ∧
    (∀ r, s.track? n = some r → right = true →
      (match r.state with
        | .closed => close = answer 64 .done (.trackState .closed)
        | .closing => close = answer 64 .done (.closing .closing r.committed)
        | _ => if r.committed = 0 then changed r close { r with state := .closed } .close False none 64 (.trackState .closed)
          else changed r close { r with state := .closing } .close False none 64 (.closing .closing r.committed)) ∧
      (match r.state with
        | .closed => changed r opn { r with state := judged r } .open False none 65 (.trackState (judged r))
        | .closing => changed r opn { r with state := judged r } .open False none 65 (.trackState (judged r))
        | x => changed r opn r .open False none 65 (.trackState x)) ∧
      (if r.state ≠ .closed then pull = answer 66 .conflict (.trackState r.state)
        else if r.fill < v then pull = answer 66 .badValue (.number r.fill)
        else changed r pull { r with fill := v, lastArrived := none } .pull True (some r.fill) 66 (.fills r.fill v)) ∧
      (if v < 1 ∨ 1000 < v then cap = answer 67 .badValue .nothing
        else
          let st := if r.state = .opened ∨ r.state = .full then judged { r with capacity := v } else r.state
          changed r cap { r with capacity := v, state := st } .capacity True none 67 (.trackState st)) ∧
      (∀ a, a = some n → alt a = answer 68 .badValue .nothing) ∧
      (∀ a m, a = some m → s.track? m = none → alt a = answer 68 .noSuch .nothing) ∧
      (∀ a, a ≠ some n → (∀ m, a = some m → s.track? m ≠ none) →
        let x := { r with alternate := a }
        (s.mode ≠ .active ∨ s.staged? ≠ none → changed r (alt a) x .alternate True none 68 .nothing) ∧
        (s.mode = .active → s.staged? = none → ∃ t, alt a = .next t ∧ (t.track? n).map TrackRec.alternate = some a ∧
          t.Answered p tag 68 ⟨.done, .nothing⟩ ∧ told t r x .alternate True none ∧
          (s.modTrack n (fun _ => x)).stagingLeaves t ∧ t.points = s.points ∧ t.sections = s.sections ∧
          t.mode = .active ∧ t.floor = s.floor)))

/-- COPY GRANT and PASS GRANT. BAD VALUE for a target that is no port, a slot outside 1 to 16, rights other than ASSIGN alone, or
the port itself; NO SUCH for an empty slot; NO RIGHT without RELAY; DENIED toward the Speed port; FULL when 4 entries wait there.
A copy keeps the grant and offers one with ASSIGN alone; a pass empties the slot and offers the grant whole; the entry stands at
the tail of the target's inbound queue and the answer counts it. Behind the GRANT OFFER a GRANT NOTE addressed to the creator is
given exactly when the track's flag for it is set and the creator is another port. -/
def Obligations.CopyAndPassOfferGrants : Prop :=
  ∀ (p : Port) (tag slot target rights : Nat) (s : State), s.ready p → s.Settled → s.mode ≠ .setup → p ≠ .speed →
    let copy := exec (.copyGrant p tag (.fits ⟨slot, target, rights⟩)) s
    let pass := exec (.passGrant p tag (.fits ⟨slot, target⟩)) s
    let answer := fun code st => Host.Outcome.next (φ := Fault) (ρ := Refusal) (s.served p tag code ⟨st, .nothing⟩)
    let both := fun st => (rights = 1 → copy = answer 72 st) ∧ pass = answer 73 st
    let held := ((s.custody.get p).slots[slot - 1]?).bind id
    (rights ≠ 1 → copy = answer 72 .badValue) ∧
    (target < 1 ∨ 4 < target ∨ slot < 1 ∨ 16 < slot → both .badValue) ∧
    (∀ dst : Port, target = portNumber dst → 1 ≤ slot → slot ≤ 16 →
      (held = none → both .noSuch) ∧
      (∀ g, held = some g →
        if g.rights.relay = false then both .noRight
        else if dst = .speed then both .denied
        else if dst = p then both .badValue
        else if 4 ≤ (s.custody.get dst).inbound.length then both .full
        else
          let noted := fun (flag : TrackRec → Bool) => g.creator ≠ p ∧ ∃ k, s.track? g.track = some k ∧ flag k = true
          let told := fun (t : State) (e : Inbound) (flag : TrackRec → Bool) (event : NoteEvent) =>
            (noted flag → ∀ q, (t.ports.get q).given = (s.ports.get q).given ++
              [⟨s.now, .grantOffer dst e.kind e.grant p ((s.custody.get dst).inbound.length + 1)⟩,
               ⟨s.now, .grantNote g.creator event g.track e.grant.rights p dst none⟩]) ∧
            (¬ noted flag → ∀ q, (t.ports.get q).given = (s.ports.get q).given ++
              [⟨s.now, .grantOffer dst e.kind e.grant p ((s.custody.get dst).inbound.length + 1)⟩])
          let offered := fun (t : State) (code : Nat) (e : Inbound) =>
            t.custody.get dst = { s.custody.get dst with inbound := (s.custody.get dst).inbound ++ [e] } ∧
            (∀ q, q ≠ p → q ≠ dst → t.custody.get q = s.custody.get q) ∧
            (t.custody.get p).inbound = (s.custody.get p).inbound ∧
            t.Gave (.grantOffer dst e.kind e.grant p ((s.custody.get dst).inbound.length + 1)) ∧
            t.Answered p tag code ⟨.done, .number ((s.custody.get dst).inbound.length + 1)⟩ ∧
            t = { s with custody := t.custody, ports := t.ports }
          (rights = 1 → ∃ t, copy = .next t ∧ offered t 72 ⟨{ g with rights := ⟨true, false, false⟩ }, p, .copied⟩ ∧
            told t ⟨{ g with rights := ⟨true, false, false⟩ }, p, .copied⟩ TrackRec.notifyCopy .copied ∧
            (t.custody.get p).slots = (s.custody.get p).slots) ∧
          ∃ t, pass = .next t ∧ offered t 73 ⟨g, p, .passed⟩ ∧
            told t ⟨g, p, .passed⟩ TrackRec.notifyPass .passed ∧
            ∀ k, (t.custody.get p).slots[k]? = if k = slot - 1 then some none else (s.custody.get p).slots[k]?))

/-- TAKE GRANT moves the oldest inbound entry into the slot that holds a grant for its track, its rights united, or else into the
preferred free slot, or the lowest free one for 0. REFUSE GRANT returns it to its sender's queue, FULL when 4 entries wait there.
DROP GRANT ends a grant without CLOSE. NO SUCH, BAD VALUE, FULL and CONFLICT change nothing. -/
def Obligations.TakeRefuseAndDropGrants : Prop :=
  ∀ (p : Port) (tag k : Nat) (s : State), s.ready p → s.Settled → s.mode ≠ .setup → p ≠ .speed →
    let take := exec (.takeGrant p tag (.fits k)) s
    let refuse := exec (.refuseGrant p tag (.fits ())) s
    let drop := exec (.dropGrant p tag (.fits k)) s
    let answer := fun code st d => Host.Outcome.next (φ := Fault) (ρ := Refusal) (s.served p tag code ⟨st, d⟩)
    let c := s.custody.get p
    let covers := fun (e : Inbound) (g : Option Grant) => match g with
      | some g => g.track == e.grant.track
      | none => false
    let done := fun (code : Nat) (cs : Custody) (d : AnswerData) => Host.Outcome.next (φ := Fault) (ρ := Refusal)
      (({ s with custody := s.custody.set p cs } : State).served p tag code ⟨.done, d⟩)
    (16 < k → take = answer 74 .badValue .nothing) ∧
    (k ≤ 16 → c.inbound = [] → take = answer 74 .noSuch .nothing) ∧
    (k ≤ 16 → ∀ e rest, c.inbound = e :: rest →
      (∀ i g, c.slots.findIdx? (covers e) = some i → c.slots[i]? = some (some g) →
        let rights := Rights.mk (g.rights.assign || e.grant.rights.assign) (g.rights.close || e.grant.rights.close)
          (g.rights.relay || e.grant.rights.relay)
        take = done 74 ⟨c.slots.set i (some { g with rights := rights }), rest⟩
          (.taken (i + 1) e.grant.track rights e.kind e.sender)) ∧
      (c.slots.findIdx? (covers e) = none →
        (k = 0 → c.slots.findIdx? Option.isNone = none → take = answer 74 .full .nothing) ∧
        (∀ i, k = 0 → c.slots.findIdx? Option.isNone = some i →
          take = done 74 ⟨c.slots.set i (some e.grant), rest⟩
            (.taken (i + 1) e.grant.track e.grant.rights e.kind e.sender)) ∧
        (∀ g, 1 ≤ k → c.slots[k - 1]? = some (some g) → take = answer 74 .badValue (.track g.track)) ∧
        (1 ≤ k → c.slots[k - 1]? = some none → take = done 74 ⟨c.slots.set (k - 1) (some e.grant), rest⟩
          (.taken k e.grant.track e.grant.rights e.kind e.sender)))) ∧
    (c.inbound = [] → refuse = answer 75 .noSuch .nothing) ∧
    (∀ e rest, c.inbound = e :: rest →
      (4 ≤ (s.custody.get e.sender).inbound.length → refuse = answer 75 .full .nothing) ∧
      ((s.custody.get e.sender).inbound.length < 4 →
        let mid := s.custody.set p ⟨c.slots, rest⟩
        let back := mid.get e.sender
        ∃ t, refuse = .next t ∧ t.Answered p tag 75 ⟨.done, .nothing⟩ ∧
          t.custody = mid.set e.sender ⟨back.slots, back.inbound ++ [⟨e.grant, p, .returned⟩]⟩ ∧
          t.Gave (.grantOffer e.sender .returned e.grant p (back.inbound.length + 1)) ∧
          t = { s with custody := t.custody, ports := t.ports })) ∧
    (k < 1 ∨ 16 < k → drop = answer 76 .badValue .nothing) ∧
    (1 ≤ k → k ≤ 16 →
      (c.slots[k - 1]?.bind id = none → drop = answer 76 .noSuch .nothing) ∧
      (∀ g, c.slots[k - 1]? = some (some g) →
        (g.rights.close = true → drop = answer 76 .conflict .nothing) ∧
        (g.rights.close = false → drop = done 76 ⟨c.slots.set (k - 1) none, c.inbound⟩ (.track g.track))))

/-- RECALL GRANT from the Crest port: NO SUCH for no track, DONE with its slot when the Crest table holds the CLOSE grant; else the
grant leaves its slot or its place in a queue and enters the Crest table, united with a grant for the track there or in the lowest
free slot, the former holder is told, and the answer gives slot and former place; FULL when the table has no room. -/
def Obligations.RecallBringsTheCloseGrantToCrest : Prop :=
  ∀ (tag n : Nat) (s : State), s.ready .crest → s.Settled → s.mode ≠ .setup →
    let sent := exec (.recallGrant .crest tag (.fits n)) s
    let answer := fun st d => Host.Outcome.next (φ := Fault) (ρ := Refusal) (s.served .crest tag 50 ⟨st, d⟩)
    let crest := s.custody.crest
    let covers := fun (g : Option Grant) => match g with
      | some g => g.track == n
      | none => false
    (s.track? n = none → sent = answer .noSuch .nothing) ∧
    (∀ r, s.track? n = some r →
      (∀ i, s.closePlace n = some (.table .crest i) → sent = answer .done (.number i)) ∧
      (∀ q table i g, (q ≠ .crest ∨ table = false) →
        (table = true ∧ s.closePlace n = some (.table q i) ∧ (s.custody.get q).slots[i - 1]? = some (some g)) ∨
          (table = false ∧ s.closePlace n = some (.queue q i) ∧
            ((s.custody.get q).inbound[i - 1]?).map Inbound.grant = some g) →
        let c := s.custody.get q
        let mid := s.custody.set q (if table then { c with slots := c.slots.set (i - 1) none }
          else { c with inbound := c.inbound.eraseIdx (i - 1) })
        let entered := fun (j : Nat) (x : Grant) => ∃ t, sent = .next t ∧
          t.custody = mid.set .crest { mid.crest with slots := mid.crest.slots.set j (some x) } ∧
          t.Answered .crest tag 50 ⟨.done, .recalled (j + 1) q table⟩ ∧
          (q ≠ .crest → t.Gave (.grantNote q .recalled g.track g.rights .crest .crest (some table))) ∧
          t = { s with custody := t.custody, ports := t.ports }
        (crest.slots.findIdx? covers = none → crest.slots.findIdx? Option.isNone = none →
          sent = answer .full .nothing) ∧
        (∀ j, crest.slots.findIdx? covers = none → crest.slots.findIdx? Option.isNone = some j → entered j g) ∧
        (∀ j x, crest.slots.findIdx? covers = some j → crest.slots[j]? = some (some x) → entered j { x with rights :=
          ⟨x.rights.assign || g.rights.assign, x.rights.close || g.rights.close, x.rights.relay || g.rights.relay⟩ })))

/-! ### Wheel sensors, crest and axles (R25 to R36, R48, R49, R84) -/

/-- A raw edge at a head changes its pin, and waits the filter time at a head whose sensor has a record; a return before that
discards it. With the supply off the pin changes alone (log entry 16); a level that is no change does nothing. -/
def Obligations.RawEdgesWaitForTheFilter : Prop :=
  ∀ (input : Nat) (h : Head) (level : Bool) (s : State), s.Settled →
    let sent := exec (.headRawEdge input h level) s
    let named := if input = 1 then some Sensor.k
      else if 2 ≤ input ∧ input ≤ 127 then some (.out (input / 2) (if input % 2 = 0 then .n else .r)) else none
    let head := fun (r : SensorRec) => match h with
      | .a => r.a
      | .b => r.b
    (s.headPins.contains (input, h) = level → sent = .next s) ∧
    (s.headPins.contains (input, h) ≠ level → ∃ t, sent = .next t ∧ t.headPins.contains (input, h) = level ∧
      (∀ e, e ≠ (input, h) → t.headPins.contains e = s.headPins.contains e) ∧
      t = { s with headPins := t.headPins, sensors := t.sensors, ports := t.ports } ∧
      (s.powered = false ∨ named.bind s.sensor? = none → t.sensors = s.sensors) ∧
      (∀ r, s.powered = true → named.bind s.sensor? = some r → ∃ x, t.sensor? r.sensor = some x ∧
        (∀ y, y ≠ r.sensor → t.sensor? y = s.sensor? y) ∧
        ((head r).owed = [] → head x = { head r with owed := [⟨level, s.clock⟩] }) ∧
        (∀ e, (head r).owed = [e] → s.clock < e.edge + r.filter → head x = { head r with owed := [] })))

/-- Filtered edges of either head, the other head having none due (an edge is taken though one of the other head and of the same
0.01 ms may still come: log entry 58). The first head to come on opens a sequence and the onset of
the other is kept. When both are off again: a sequence in which the other head did not come on is a disturbance, which raises
the count and at the limit makes a NORMAL or STANDING sensor DISTURBED with TRACKING FAULT; one released last by the head that
came on first is a RETURN, which hands on nothing; any other is a pass, handed on with direction, speed and the time of the
second onset, the count 0 in both; so in every condition, and a STANDING sensor becomes NORMAL with it, its notice first (log
entry 17). A settling sensor makes none until both heads are off. A head whose standing timer has run for longer than the limit
makes a NORMAL sensor STANDING; the last expired head going off ends that, and any other head going off does not. An edge or
expiry that is not due does nothing (log entry 3). -/
def Obligations.FilteredEdgesMakeSequences : Prop :=
  ∀ (x : Sensor) (h : Head) (r : SensorRec) (k : Nat) (s : State), s.powered = true → s.Settled → s.sensor? x = some r →
    let edge := exec (.filteredEdge x h) s
    let own := match h with
      | .a => r.a
      | .b => r.b
    let other := match h with
      | .a => r.b
      | .b => r.a
    let mine := match h with
      | .a => Phase.aFirst
      | .b => .bFirst
    let theirs := match h with
      | .a => Phase.bFirst
      | .b => .aFirst
    let put := fun (q : SensorRec) (i : HeadRec) => match h with
      | .a => { q with a := i }
      | .b => { q with b := i }
    let at' := k + r.filter
    let limit := s.layout.disturbanceLimit
    let alone := fun (t : State) (y : SensorRec) => t.sensor? x = some y ∧ (∀ z, z ≠ x → t.sensor? z = s.sensor? z) ∧
      t = { s with sensors := t.sensors, ports := t.ports }
    (own.owed = [] → edge = .next s.startLines) ∧
    (other.owed = [] → at' ≤ s.clock → r.settling = true → r.condition ≠ .standing → ∀ level, own.owed = [⟨level, k⟩] →
      ∃ t, edge = .next t ∧ alone t (put { r with settling := level || other.level }
        ⟨level, [], if level then .running at' else .stopped⟩)) ∧
    (other.owed = [] → at' ≤ s.clock → r.settling = false →
      (r.phase = .idle → own = ⟨false, [⟨true, k⟩], .stopped⟩ → other.level = false → r.condition ≠ .standing →
        ∃ t, edge = .next t ∧ alone t (put { r with phase := mine, first := some at', second := none }
          ⟨true, [], .running at'⟩)) ∧
      (r.phase = theirs → own = ⟨false, [⟨true, k⟩], .stopped⟩ →
        r.condition ≠ .standing ∨ (other.level = true ∧ other.timer = .expired) →
        ∃ t, edge = .next t ∧ alone t (put { r with second := some (r.second.getD at') } ⟨true, [], .running at'⟩)) ∧
      (r.phase = mine → own.owed = [⟨false, k⟩] → other.level = false → r.second = none →
        let y := put { r with phase := .idle, first := none, second := none, disturb := min (r.disturb + 1) limit }
          ⟨false, [], .stopped⟩
        (r.condition = .disturbed → ∃ t, edge = .next t ∧ alone t y) ∧
        (r.condition ≠ .disturbed → r.disturb + 1 < limit → ∃ t, edge = .next t ∧ alone t { y with condition := .normal } ∧
          (r.condition = .standing → t.Gave (.sensorState x .normal .standing (r.disturb + 1)))) ∧
        (r.condition ≠ .disturbed → limit ≤ r.disturb + 1 → ∃ t, edge = .next t ∧
          t.sensor? x = some { y with condition := .disturbed } ∧ (∀ z, z ≠ x → t.sensor? z = s.sensor? z) ∧
          t.holds.has .trackingFault = true ∧ t.relay = false ∧
          (∀ n ∈ s.layout.sectionsOf x, ∀ z, t.sectionAt? n = some z → z.proven = false) ∧
          t.Gave (.sensorState x .disturbed r.condition (min (r.disturb + 1) limit)) ∧
          t.Gave (.trackingFault (.sensorDisturbed x)) ∧
          t = { s with sensors := t.sensors, sections := t.sections, holds := t.holds, relay := t.relay,
                       ports := t.ports })) ∧
      (∀ t1 t2, r.first = some t1 → r.second = some t2 → own.owed = [⟨false, k⟩] → other.level = false →
        let y := put { r with
          phase := .idle, first := none, second := none, disturb := 0,
          condition := if r.condition = .standing then .normal else r.condition } ⟨false, [], .stopped⟩
        let told := fun (u : State) => if r.condition = .standing then u.give (.sensorState x .normal .standing 0) else u
        (r.phase = mine → ∃ t, edge = .next t ∧ alone t y ∧
          (r.condition = .standing → t.Gave (.sensorState x .normal .standing 0))) ∧
        (r.phase = theirs →
          let v := r.spacing * 10000 / (t2 - t1)
          let pass := Pass.mk x (match h with
            | .b => .forward
            | .a => .backward) (if t2 - t1 = 0 ∨ v < 20 ∨ 3000 < v then none else some v) (yardOf t2)
          edge = .next (((told (s.modSensor x (fun _ => y))).takePass pass).finish s none))) ∧
      (own.owed = [⟨false, k⟩] → other.level = true → r.condition ≠ .standing ∨ other.timer = .expired →
        ∃ t, edge = .next t ∧ alone t (put r ⟨false, [], .stopped⟩)) ∧
      (own.owed = [⟨false, k⟩] → own.timer = .expired → other.level = true → other.timer ≠ .expired → r.condition = .standing →
        ∃ t, edge = .next t ∧ alone t { (put r ⟨false, [], .stopped⟩) with condition := .normal } ∧
          t.Gave (.sensorState x .normal .standing r.disturb))) ∧
    (∀ since, own.timer = .running since →
      (s.clock ≤ since + s.layout.standingTicks → exec (.standingTimerExpiry x h) s = .next s.startLines) ∧
      (since + s.layout.standingTicks < s.clock → ∃ t, exec (.standingTimerExpiry x h) s = .next t ∧
        alone t { (put r { own with timer := .expired }) with
          condition := if r.condition = .normal then .standing else r.condition } ∧
        (r.condition = .normal → t.Gave (.sensorState x .standing .normal r.disturb))))

/-- Axles at K. A forward pass in IDLE with a STAGED record releases it: the record is FORMING with its first axle counted and
held, the crest counts down the rest, the axle goes to the Zone Tracker marked first, CUT RELEASED carries the speed, an
unaccepted RESTRICTED cut raises TRACKING FAULT; with an empty root section, the list starts with it and its head has entered
the root point. A further axle counts down and at 0 starts the gap timer; a gap of the separation distance with 2 or more to
come makes a fragment, after a backward axle too (log entry 57; made before the short cut's retirement check: log entry 27), or
an unidentified rest (FRAGMENT LIMIT where room is short as well: log entry 47); an axle in SEPARATING merges the STAGED record,
or lengthens the cut up to 384; without a STAGED record an unidentified run goes on until its gap (a run that a gap ends begins
anew with a notice: log entry 40). A backward axle goes to the Crest Tracker with its attribution on leaving: it counts back up,
and a cut with none left returns to STAGED (the last axle time and speed absent then: log entry 23), a record STAGED behind it
un-staged first; with the pool short it is un-staged, and with its destination no longer OPEN it is planned again. -/
def Obligations.FirstAxleReleasesStagedCut : Prop :=
  (∀ (x : SensorRec) (e : RawChange) (t1 t2 n : Nat) (sec : SectionRec) (r : CutRec) (st : Step) (s : State),
     s.powered = true → s.Settled → s.sensor? .k = some x → x.condition = .normal → x.settling = false →
     x.phase = .aFirst → x.first = some t1 → x.second = some t2 → x.a = ⟨false, [], .stopped⟩ → x.b.level = true →
     x.b.owed = [e] → e.level = false → e.edge + x.filter ≤ s.clock →
     s.crest.phase = .idle → s.staged? = some r → s.cut? r.id = some r → r.path.head? = some st → r.frontier = some 0 →
     s.layout.root? = some n → st.point = n → s.sectionAt? n = some sec → sec.occ = [] →
     let v := x.spacing * 10000 / (t2 - t1)
     let speed := if t2 - t1 = 0 ∨ v < 20 ∨ 3000 < v then none else some v
     let time := yardOf t2
     ∃ t y, exec (.filteredEdge .k .b) s = .next t ∧ t.cut? r.id = some y ∧ y.state = .forming ∧ y.counted = 1 ∧
       y.held = 1 ∧ y.released = some time ∧ y.head = some ⟨.k, speed, time⟩ ∧ y.frontier = some 1 ∧
       t.crest = ⟨.forming, some (.cut r.id), r.expected - 1, 0, some time, some speed, none⟩ ∧
       (t.sectionAt? n).map SectionRec.occ = some [⟨.cut r.id, 1⟩] ∧ t.stagedLeftDue = true ∧ t.planned = s.planned ∧
       (t.sensor? .k).map (fun z => (z.phase, z.disturb, z.b.level)) = some (.idle, 0, false) ∧
       t.Gave (.cutReleased r.id r.expected r.dest r.status r.cls (r.cls == .restricted && !r.accepted) r.tag speed time) ∧
       (r.cls = .restricted → r.accepted = false → t.holds.has .trackingFault = true)) ∧
  (∀ (p : Pass) (s : State), p.sensor = .k → p.dir = .forward →
    let taken := s.takePass p
    let seen : Crest := { s.crest with lastTime := some p.time, lastSpeed := some p.speed }
    let v := p.speed.getD 20
    let ends := s.now + BitVec.ofNat 32 ((s.layout.separation * 1000 + v - 1) / v)
    let apart := match s.crest.lastTime with
      | some b => YardTime.since p.time b * ((s.crest.lastSpeed.getD none).getD 20) / 1000
      | none => 0
    let near := apart < s.layout.separation
    let counted := fun (c : CutId) (more : Nat) (x : CutRec) =>
      if x.id = c then { x with counted := x.counted + 1, held := x.held + 1, expected := x.expected + more } else x
    let run : Crest := ⟨.separating, some .unidentified, 0, 0, some p.time, some p.speed, some ends⟩
    let fault := fun (u : State) (cause : AxleCause) =>
      (u.give (.trackingFault (.unidentifiedAxle .k .forward none (some cause) none))).raise .crestTracker .trackingFault
    (s.crest.phase = .idle →
      (∀ r, s.staged? = some r →
        let unaccepted := r.cls == .restricted && !r.accepted
        let u : State := { s with
          cuts := s.cuts.map (fun x => if x.id = r.id then
            { x with state := .forming, counted := 1, held := 1, released := some p.time } else x),
          crest := ⟨.forming, some (.cut r.id), r.expected - 1, 0, some p.time, some p.speed, none⟩ }
        taken = (((if unaccepted then u.raise .crestTracker .trackingFault else u).give (.cutReleased r.id r.expected r.dest
          r.status r.cls unaccepted r.tag p.speed p.time)).stagedLeft).forwardAtK (.cut r.id) true p) ∧
      (s.staged? = none → taken = (fault { s with crest := run } .noStagedCut).forwardAtK .unidentified false p)) ∧
    (s.crest.phase = .forming → ∀ c r, s.crest.current = some (.cut c) → s.cut? c = some r →
      (r.counted = 0 ∨ near ∨ s.crest.countdown ≤ 1 →
        taken = ({ s with
          cuts := s.cuts.map (counted c 0),
          crest := if s.crest.countdown ≤ 1 then { seen with countdown := 0, phase := .separating, gap := some ends }
            else { seen with countdown := s.crest.countdown - 1 } } : State).forwardAtK (.cut c) false p) ∧
      (r.counted ≠ 0 → ¬ near → 1 < s.crest.countdown →
        let rolling := s.cuts.map (fun x => if x.id = c then { x with state := .rolling } else x)
        let room := c.frag < 3 ∧ s.cuts.length < 24 ∧ r.path.length ≤ s.poolFree
        (room →
          let f : CutRec := { r with
            id := ⟨c.roll, c.frag + 1⟩, state := .forming, stalled := false, expected := s.crest.countdown, counted := 1,
            held := 1, arrived := 0, merged := [], frontier := some 0, head := none, speed := none,
            released := some p.time }
          ∃ u : State, taken = (u.retireCheck c).forwardAtK (.cut f.id) true p ∧ u.cuts = rolling ++ [f] ∧
            u.demands = (s.insertDemands f.id r.path).demands ∧
            (u.track? r.dest).map TrackRec.committed = (s.track? r.dest).map (fun k => k.committed + 1) ∧
            u.crest = ⟨.forming, some (.cut f.id), s.crest.countdown - 1, 0, some p.time, some p.speed, none⟩ ∧
            u.Gave (.cutFragment c r.counted f.id s.crest.countdown r.dest apart)) ∧
        (¬ room →
          ∃ u : State, taken = (u.retireCheck c).forwardAtK .unidentified false p ∧
            u.Gave (.trackingFault (.unidentifiedAxle .k .forward none
              (some (if 3 ≤ c.frag then .fragmentLimit else .noRoom)) (some (c, s.crest.countdown)))) ∧
            u = { s with
              cuts := rolling, ports := u.ports,
              crest := ⟨.forming, some .unidentified, s.crest.countdown - 1, 0, some p.time, some p.speed, none⟩,
              holdInbox := s.holdInbox ++ [⟨.block .crestTracker, .raise .trackingFault⟩,
                ⟨.block .crestTracker, .raise .capacity⟩] }))) ∧
    (s.crest.phase = .separating → ∀ c r, s.crest.current = some (.cut c) → s.cut? c = some r →
      (∀ x, s.staged? = some x → x.id ≠ c → r.merged.length < 3 → r.expected + x.expected ≤ 384 →
        let unaccepted := x.cls == .restricted && !x.accepted
        ∃ u : State, taken = u.forwardAtK (.cut c) false p ∧
          u.cuts = (s.cuts.filter (fun y => y.id != x.id)).map (fun y => if y.id = c then { y with
            expected := y.expected + x.expected, merged := y.merged ++ [x.id.roll], counted := y.counted + 1,
            held := y.held + 1 } else y) ∧
          u.crest = { seen with phase := .forming, countdown := x.expected - 1, gap := none } ∧ u.stagedLeftDue = true ∧
          (∀ q ∈ u.demands, ∀ d ∈ q.entries, d.cut ≠ x.id) ∧
          (u.track? x.dest).map TrackRec.committed = (s.track? x.dest).map (fun k => k.committed - 1) ∧
          u.holdInbox = s.holdInbox ++ (if unaccepted then [⟨.block .crestTracker, .raise .trackingFault⟩] else []) ∧
          u.Gave (.cutMerged c (some x.id.roll) (some x.dest) (r.expected + x.expected) (r.merged.length + 1) unaccepted)) ∧
      ((∀ x, s.staged? = some x → 3 ≤ r.merged.length ∨ 384 < r.expected + x.expected) →
        (r.expected < 384 → taken = (({ s with
          cuts := s.cuts.map (counted c 1),
          crest := { seen with overlength := s.crest.overlength + 1, gap := some ends } } : State).give
            (.cutMerged c none none (r.expected + 1) r.merged.length false)).forwardAtK (.cut c) false p) ∧
        (384 ≤ r.expected → taken =
          (fault { s with crest := { seen with gap := some ends } } .overlengthLimit).forwardAtK .unidentified false p))) ∧
    (s.crest.current = some .unidentified →
      (s.crest.phase = .separating → taken =
        ({ s with crest := { seen with gap := some ends } } : State).forwardAtK .unidentified false p) ∧
      (s.crest.phase = .forming → near → taken = ({ s with
        crest := if s.crest.countdown ≤ 1 then { seen with countdown := 0, phase := .separating, gap := some ends }
          else { seen with countdown := s.crest.countdown - 1 } } : State).forwardAtK .unidentified false p) ∧
      (s.crest.phase = .forming → ¬ near →
        taken = ({ s with crest := { Crest.idle with
          lastTime := s.crest.lastTime, lastSpeed := s.crest.lastSpeed } } : State).takePass p))) ∧
  (∀ (p : Pass) (a : Occupant) (s : State), p.sensor = .k → p.dir = .backward →
    let seen : Crest := { s.crest with lastTime := some p.time, lastSpeed := some p.speed }
    let back := s.crestBackward a p
    let less := fun (c : CutId) (x : CutRec) =>
      if x.id = c then { x with counted := x.counted - 1, held := x.held - 1 } else x
    (∀ n, s.layout.root? = some n → s.takePass p =
      ((s.leaveSection n p).1.crestBackward (s.leaveSection n p).2.1 p).afterEmpty n (s.leaveSection n p).2.2) ∧
    (a = .unidentified → back = { s with crest := if s.crest.current = some .unidentified then
      { seen with countdown := min (s.crest.countdown + 1) 383, phase := .forming, gap := none } else seen }) ∧
    (∀ c r, a = .cut c → s.cut? c = some r → s.crest.current ≠ some (.cut c) →
      back = ({ s with crest := seen, cuts := s.cuts.map (less c) } : State).retireCheck c) ∧
    (∀ c r, a = .cut c → s.cut? c = some r → s.crest.current = some (.cut c) →
      let returns := r.held ≤ 1 ∧ r.counted ≤ 1 ∧ c.frag = 0 ∧ r.merged = [] ∧ s.crest.overlength = 0
      (¬ returns → back = { s with
        cuts := s.cuts.map (less c),
        crest := { seen with
          countdown := if 0 < r.counted then s.crest.countdown + 1 else s.crest.countdown, phase := .forming,
          gap := none } }) ∧
      (returns → ∀ w, s.staged? = some w → w.id ≠ c → (∀ x ∈ s.cuts, x.state = .staged → x.id = w.id) →
        let u := s.unstage w
        back = u.crestBackward a p ∧ u.staged? = none ∧ u.cut? c = some r ∧ u.stagedLeftDue = s.stagedLeftDue ∧
        u.freedDue = s.freedDue ∧ u.planned = ⟨w.id.roll, w.expected, w.planned, w.cls, w.tag, w.port⟩ :: s.planned ∧
        u.cuts = s.cuts.filter (fun x => x.id != w.id) ∧ (∀ q ∈ u.demands, ∀ d ∈ q.entries, d.cut ≠ w.id) ∧
        (u.track? w.dest).map TrackRec.committed = (s.track? w.dest).map (fun k => k.committed - 1) ∧
        u.holdInbox = s.holdInbox ++ [⟨.block .rollList, .clear .nextRestricted⟩] ∧
        u.Gave (.cutStaged w.id .returned w.expected w.planned w.cls w.tag w.port none)) ∧
      (returns → s.staged? = none → ∀ f, r.frontier = some f →
        let fits := (r.path.take f).length ≤ s.poolFree
        let v := s.insertDemands c (r.path.take f)
        let y := { r with
          state := .staged, counted := 0, held := 0, released := none, head := none, speed := none, stalled := false,
          frontier := some 0 }
        let unstaged := back.cut? c = none ∧ back.planned = ⟨c.roll, r.expected, r.planned, r.cls, r.tag, r.port⟩ :: s.planned ∧
          (∀ q ∈ back.demands, ∀ d ∈ q.entries, d.cut ≠ c) ∧
          (back.track? r.dest).map TrackRec.committed = (s.track? r.dest).map (fun k => k.committed - 1) ∧
          (s.mode = .active → back.stagedLeftDue = true) ∧
          back.Gave (.cutStaged c .returned r.expected r.planned r.cls r.tag r.port none)
        back.crest = Crest.idle ∧ back.Gave (.cutStaged c .staged r.expected r.planned r.cls r.tag r.port
          (some (r.dest, r.status, r.path.length))) ∧
        (∀ z ∈ back.sections, ∀ e ∈ z.exits, e.cut ≠ c) ∧ (∀ k, k ≠ c → back.cut? k = s.cut? k) ∧
        (s.mode = .active → fits → s.trackOpen r.dest = true →
          back.cut? c = some y ∧ back.planned = s.planned ∧ back.tracks = s.tracks ∧
          back.demands.map (fun q => (q.point, q.entries.map (fun d => (d.cut, d.pos)))) =
            v.demands.map (fun q => (q.point, q.entries.map (fun d => (d.cut, d.pos)))) ∧
          back.holdInbox = s.holdInbox ++ [⟨.block .rollList, .clear .listEmpty⟩, ⟨.block .rollList, .clear .nextUnroutable⟩,
            ⟨.block .rollList, .clear .capacity⟩] ++
            (if r.cls = .restricted ∧ r.accepted = false then [⟨.block .rollList, .raise .nextRestricted⟩] else [])) ∧
        (s.mode = .active → fits → s.trackOpen r.dest = false →
          let alt := (s.track? r.planned).bind TrackRec.alternate
          (s.trackOpen r.planned = false → (∀ x, alt = some x → s.trackOpen x = false) → unstaged) ∧
          (∀ dest status,
            (s.trackOpen r.planned = true ∧ dest = r.planned ∧ status = .asPlanned) ∨
              (s.trackOpen r.planned = false ∧ alt = some dest ∧ s.trackOpen dest = true ∧ status = .alternate) →
            let path := s.layout.pathTo dest
            (v.poolFree + v.demandCount c < path.length → unstaged) ∧
            (path.length ≤ v.poolFree + v.demandCount c →
              back.cut? c = some { y with dest := dest, status := status, path := path, pathEnd := .track } ∧
              back.planned = s.planned ∧
              back.demands = ((v.removeDemands c (fun _ => true)).insertDemands c path).demands ∧
              (back.track? dest).map TrackRec.committed = (s.track? dest).map (fun k => k.committed + 1) ∧
              (back.track? r.dest).map TrackRec.committed = (s.track? r.dest).map (fun k => k.committed - 1) ∧
              back.Gave (.cutStaged c .rePlanned r.expected r.planned r.cls r.tag r.port
                (some (dest, status, path.length)))))) ∧
        (s.mode = .draining ∨ ¬ fits → unstaged))))

/-- Axles in the tree and in the tracks. A forward axle into a track, by the outlet its cut's exit register holds: the section's
head entry loses it, the track's fill rises to at most 4095, the cut is the last arrival and counts it as arrived; at its
capacity the track becomes FULL, with TRACK STATE for AXLE also where the same pass retires the cut and gives ARRIVAL (the
model's choice: log entry 53). An axle leaves a section by the entry at the end of its direction, or as UNIDENTIFIED out of an
empty list, which makes the section UNPROVEN; it joins a list in the entry of its occupant, or in a new one at the tail, the
head or in cut order, or in the tail entry of a crowded list, whose occupant the pass then counts for at the dwell timer (the
model's choice: log entry 26). The dwell timer starts, restarts and stops by the pass, and a stall it ends is ended; a section
emptied takes its point's pending timing and leaves an evaluation due. The exit register says which forward axle is a cut's head
and which has split off. A backward axle out of a track is the last arrived cut's while that has arrived axles. A forward axle
into a track is a head pass, a further axle or UNIDENTIFIED. A head pass into a point takes its demand, moves the frontier, also
below an OPEN path, and predicts the points behind anew (a stall that the same pass ends is ended first: log entry 38); Point
Control answers it by the state of the point and the run-in test; a head that took the other outlet diverts its cut, and the
point is at FAULT or marked; a head in a track has arrived. A ROLLING cut whose held axles have all arrived retires, its notice
saying that the head reached when the frontier is absent and it holds axles (log entry 48). The order of the notices of one pass
is that of log entries 17 and 45, the head pass is taken before the changes of held axles (log entry 52). -/
def Obligations.ForwardAxleEntersTrack : Prop :=
  (∀ (x : SensorRec) (e : RawChange) (n k c1 t1 t2 : Nat) (o : Pos) (c : CutId) (m : Nat) (more : List OccEntry)
     (sec : SectionRec) (tr : TrackRec) (r : CutRec) (s : State),
     s.powered = true → s.Settled → s.sensor? (.out n o) = some x → x.condition = .normal → x.settling = false →
     x.phase = .aFirst → x.first = some t1 → x.second = some t2 → x.a = ⟨false, [], .stopped⟩ → x.b.level = true →
     x.b.owed = [e] → e.level = false → e.edge + x.filter ≤ s.clock →
     s.layout.targetOf ⟨n, o⟩ = some (.track k) → s.sectionAt? n = some sec → sec.occ = ⟨.cut c, m + 2⟩ :: more →
     sec.exits.find? (fun i => i.cut == c) = some ⟨c, o⟩ → s.track? k = some tr →
     s.cut? c = some r → ¬ (r.state = .rolling ∧ r.arrived + 1 = r.held) → c1 = min (tr.fill + 1) 4095 →
     ∃ t, exec (.filteredEdge (.out n o) .b) s = .next t ∧
       (t.sectionAt? n).map SectionRec.occ = some (mergeUnidentified (⟨.cut c, m + 1⟩ :: more)) ∧
       (∀ j, j ≠ n → t.sectionAt? j = s.sectionAt? j) ∧
       t.track? k = some { tr with fill := c1, lastArrived := some c, state := (match tr.state with
         | .opened => if tr.capacity ≤ c1 then .full else .opened
         | .full => if c1 < tr.capacity then .opened else .full
         | y => y) } ∧
       (∀ j, j ≠ k → t.track? j = s.track? j) ∧ (t.cut? c).map CutRec.arrived = some (r.arrived + 1) ∧
       t.crest = s.crest ∧ t.planned = s.planned ∧ t.points = s.points ∧ t.demands = s.demands) ∧
  -- an axle leaves a section (R45, R46)
  (∀ (p : Pass) (n : Nat) (sec : SectionRec) (s : State), s.sectionAt? n = some sec →
    let left := s.leaveSection n p
    let list := (left.1.sectionAt? n).map SectionRec.occ
    (∀ j, j ≠ n → left.1.sectionAt? j = s.sectionAt? j) ∧
    (sec.occ ≠ [] → s.passTimes n sec left.2.1 left.1 ∧ (left.2.2 = true ↔ list = some [])) ∧
    (∀ a k rest, p.dir = .forward → sec.occ = ⟨a, k⟩ :: rest → left.2.1 = a ∧
      list = some (mergeUnidentified (if k ≤ 1 then rest else ⟨a, k - 1⟩ :: rest))) ∧
    (∀ a k rest, p.dir = .backward → sec.occ = rest ++ [⟨a, k⟩] → left.2.1 = a ∧
      list = some (mergeUnidentified (if k ≤ 1 then rest else rest ++ [⟨a, k - 1⟩]))) ∧
    (sec.occ = [] → left.2.1 = .unidentified ∧ left.2.2 = false ∧ left.1.sectionAt? n = some { sec with proven := false } ∧
      left.1.Gave (.trackingFault (.unidentifiedAxle p.sensor p.dir (some n) none none)) ∧
      (⟨.block .zoneTracker, .raise .trackingFault⟩ : HoldClaim) ∈ left.1.holdInbox ∧
      (sec.proven = true → s.mode = .active →
        (⟨.block .zoneTracker, .raise .unproven⟩ : HoldClaim) ∈ left.1.holdInbox))) ∧
  -- an axle joins a list (R43, R44)
  (∀ (a : Occupant) (place : Place) (n : Nat) (x : Sensor) (sec : SectionRec) (s : State), s.sectionAt? n = some sec →
    let joined := s.joinSection n a place x
    let list := (joined.1.sectionAt? n).map SectionRec.occ
    let later := fun (c : CutId) (e : OccEntry) => match e.occ with
      | .cut d => c.roll < d.roll ∨ (c.roll = d.roll ∧ c.frag < d.frag)
      | .unidentified => False
    let placed := fun (l : List OccEntry) => list = some l ∧ joined.2 = [] ∧ s.passTimes n sec a joined.1
    (∀ c, a = .cut c → (∃ e ∈ sec.occ, e.occ = .cut c) →
      placed (sec.occ.map (fun e => if e.occ = .cut c then { e with count := e.count + 1 } else e))) ∧
    (∀ c, a = .cut c → (∀ e ∈ sec.occ, e.occ ≠ .cut c) → sec.occ.length < 8 → place ≠ .head →
      (∀ b e l, sec.occ = b ++ e :: l → (∀ y ∈ b, ¬ later c y) → later c e → placed (b ++ ⟨.cut c, 1⟩ :: e :: l)) ∧
      ((∀ y ∈ sec.occ, ¬ later c y) →
        (place = .tail → placed (sec.occ ++ [⟨.cut c, 1⟩])) ∧
        (place = .cutOrder → ∀ b l, sec.occ = b ++ l → (∀ y ∈ l, y.occ = .unidentified) →
          (b = [] ∨ ∃ d k, b.getLast? = some ⟨.cut d, k⟩) → placed (b ++ ⟨.cut c, 1⟩ :: l)))) ∧
    (a = .unidentified →
      (place = .tail → ∀ b k, sec.occ = b ++ [⟨.unidentified, k⟩] → placed (b ++ [⟨.unidentified, k + 1⟩])) ∧
      (place = .tail → tailOcc sec.occ ≠ some .unidentified → sec.occ.length < 8 →
        placed (sec.occ ++ [⟨.unidentified, 1⟩])) ∧
      (place = .head → ∀ b k, sec.occ = ⟨.unidentified, k⟩ :: b → placed (⟨.unidentified, k + 1⟩ :: b)) ∧
      (place = .head → headOcc sec.occ ≠ some .unidentified → sec.occ.length < 8 →
        placed (⟨.unidentified, 1⟩ :: sec.occ))) ∧
    (∀ b o k, 8 ≤ sec.occ.length → sec.occ = b ++ [⟨o, k⟩] →
      (∀ c, a = .cut c → ∀ e ∈ sec.occ, e.occ ≠ .cut c) →
      (a = .unidentified → place = .head → headOcc sec.occ ≠ some .unidentified) →
      (a = .unidentified → place ≠ .head → o ≠ .unidentified) →
      list = some (b ++ [⟨o, k + 1⟩]) ∧ s.passTimes n sec o joined.1 ∧
      joined.2 = (match a with
        | .cut c => [.less c]
        | .unidentified => []) ++ (match o with
        | .cut c => [.more c]
        | .unidentified => []) ∧
      joined.1.Gave (.trackingFault (.crowded x n a o)) ∧
      (⟨.block .zoneTracker, .raise .trackingFault⟩ : HoldClaim) ∈ joined.1.holdInbox)) ∧
  -- head, follower and split at an outlet (R48, R54)
  (∀ (st : Step) (x : Sensor) (c : CutId) (sec : SectionRec) (s : State), s.sectionAt? st.point = some sec →
    let told := s.attributeAxle st x (.cut c)
    let item := (sec.exits.find? (fun e => e.cut == c)).map ExitItem.outlet
    (item = none → told.2 = ⟨.cut c, true, []⟩ ∧
      told.1.sectionAt? st.point = some { sec with exits := sec.exits ++ [⟨c, st.pos⟩] } ∧
      told.1 = { s with sections := told.1.sections }) ∧
    (item = some st.pos → told = (s, ⟨.cut c, false, []⟩)) ∧
    (∀ o, item = some o → o ≠ st.pos → told = ((s.give (.trackingFault (.splitCut x st.point c o st.pos))).raise
      .zoneTracker .trackingFault, ⟨.unidentified, false, [.less c]⟩)) ∧
    s.attributeAxle st x .unidentified = (s, ⟨.unidentified, false, []⟩) ∧
    s.takeHeld [.less c] = ({ s with
      cuts := s.cuts.map (fun y => if y.id = c then { y with held := y.held - 1 } else y) } : State).retireCheck c ∧
    s.takeHeld [.more c] = ({ s with
      cuts := s.cuts.map (fun y => if y.id = c then { y with held := y.held + 1 } else y) } : State).retireCheck c) ∧
  -- out of one section into the next (R42, R48, R53, R55)
  (∀ (p : Pass) (st : Step) (q : Nat) (s : State), p.sensor = .out st.point st.pos → p.dir = .forward →
    s.layout.targetOf st = some (.point q) →
    let left := s.leaveSection st.point p
    let told := left.1.attributeAxle st p.sensor left.2.1
    let joined := told.1.joinSection q told.2.occ .tail p.sensor
    s.takePass p = (((match left.2.1 with
      | .cut c => if told.2.head then joined.1.headPass c p (some st) (.point q) else joined.1
      | .unidentified => joined.1).takeHeld (told.2.held ++ joined.2)).afterEmpty st.point left.2.2)) ∧
  -- out of a section into a track (R49, R53, R54, R150)
  (∀ (p : Pass) (st : Step) (n : Nat) (k : TrackRec) (s : State), p.sensor = .out st.point st.pos → p.dir = .forward →
    s.layout.targetOf st = some (.track n) → s.track? n = some k →
    let left := s.leaveSection st.point p
    let told := left.1.attributeAxle st p.sensor left.2.1
    let filled := told.1.fillUp n
    let fill := min (k.fill + 1) 4095
    let y := { k with fill := fill, state := match k.state with
      | .opened => if k.capacity ≤ fill then .full else .opened
      | .full => if fill < k.capacity then .opened else .full
      | x => x }
    filled.track? n = some y ∧ (∀ j, j ≠ n → filled.track? j = s.track? j) ∧
    filled.trackReportDue = told.1.trackReportDue ++ (if y.state = k.state then [] else [n]) ∧
    (y.state ≠ k.state →
      filled.Gave (.trackState n .axle y.state k.state y.fill y.capacity y.committed y.alternate none none)) ∧
    (told.2.occ = .unidentified → s.takePass p = (filled.takeHeld told.2.held).afterEmpty st.point left.2.2) ∧
    (∀ c, told.2.occ = .cut c →
      let u := filled.modTrack n (fun x => { x with lastArrived := some c })
      s.takePass p = (((((if told.2.head then u.headPass c p (some st) (.track n) else u).modCut c (fun r =>
        { r with arrived := r.arrived + 1 })).retireCheck c).takeHeld told.2.held).afterEmpty st.point left.2.2))) ∧
  -- a section becomes empty (R55, R125, R145)
  (∀ (n : Nat) (s : State), s.afterEmpty n false = s ∧ s.afterEmpty n true = { s with
    evalDue := s.evalDue ++ [⟨n, false⟩],
    points := if s.sectionEmpty n then s.points.map (fun q => if q.num = n then q.timed else q) else s.points }) ∧
  -- backward axles (R50, R52)
  (∀ (p : Pass) (st : Step) (s : State), p.sensor = .out st.point st.pos → p.dir = .backward →
    (∀ q, s.layout.targetOf st = some (.point q) →
      let left := s.leaveSection q p
      let joined := left.1.joinSection st.point left.2.1 (match left.2.1 with
        | .cut _ => .cutOrder
        | .unidentified => .tail) p.sensor
      s.takePass p = (joined.1.takeHeld joined.2).afterEmpty q left.2.2) ∧
    (∀ n k, s.layout.targetOf st = some (.track n) → s.track? n = some k →
      let owner := k.lastArrived.bind (fun c => (s.cut? c).bind (fun r => if 1 ≤ r.arrived then some c else none))
      let down := s.fillDown n
      let met := if k.fill = 0 then (down.give (.trackingFault (.trackUnderrun p.sensor n))).raise .zoneTracker .trackingFault
        else down
      (down.track? n).map (fun y => (y.fill, y.lastArrived)) = some (k.fill - 1, k.lastArrived) ∧
      (owner = none → s.takePass p = (met.joinSection st.point .unidentified .head p.sensor).1.takeHeld
        (met.joinSection st.point .unidentified .head p.sensor).2) ∧
      (∀ c, owner = some c → s.takePass p = (((met.joinSection st.point (.cut c) .cutOrder p.sensor).1.modCut c (fun r =>
        { r with arrived := r.arrived - 1 })).retireCheck c).takeHeld (met.joinSection st.point (.cut c) .cutOrder p.sensor).2))) ∧
  -- retirement (R100, R120)
  (∀ (c : CutId) (r : CutRec) (s : State), s.cut? c = some r →
    (¬ (r.state = .rolling ∧ r.arrived = r.held) → s.retireCheck c = s) ∧
    (r.state = .rolling → r.arrived = r.held →
      let t := s.retireCheck c
      t.cuts = s.cuts.filter (fun x => x.id != c) ∧ t.freedDue = true ∧
      (∀ q ∈ t.demands, ∀ d ∈ q.entries, d.cut ≠ c) ∧ (∀ z ∈ t.sections, ∀ e ∈ z.exits, e.cut ≠ c) ∧
      (t.track? r.dest).map TrackRec.committed = (s.track? r.dest).map (fun k => k.committed - 1) ∧
      t.Gave (.cutArrived c r.dest r.held r.arrived r.expected r.merged (r.frontier.isNone && r.held != 0)))) ∧
  -- the head enters a point (R104, R105, R134, R135)
  (∀ (c : CutId) (n : Nat) (y : Option Pos) (speed : Option Nat) (time : YardTime) (r : PointRec) (s : State),
    s.point? n = some r →
    let answer := s.entryReport c n y speed time
    let effective := match r.measured with
      | some m => max r.timing.allowance (m + 100)
      | none => r.timing.allowance
    let marked := fun (t : State) => if r.runIn then t = s else
      t.point? n = some { r with runIn := true } ∧ (∀ m, m ≠ n → t.point? m = s.point? m) ∧
      t.holdInbox = s.holdInbox ++ [⟨.block .pointControl, .raise .runIn⟩] ∧
      t.Gave (.pointState (some n) (.runIn c) (some ⟨r.state, r.lie, r.last, r.blocked, true⟩)) ∧
      t = { s with points := t.points, holdInbox := t.holdInbox, ports := t.ports }
    (∀ o, r.state = .locked o → answer = (s, match y with
      | some z => if z = o then none else some o
      | none => none)) ∧
    (∀ k, r.state = .fault k → answer = (s, none)) ∧
    (∀ g start, r.state = .throwing g start →
      let elapsed := YardTime.since time start
      let threat := effective ≤ elapsed ∨ ∀ v, speed = some v → s.layout.toeOf n * 1000 / v < effective - elapsed
      (y = none ∨ y = some g → answer.2 = none ∧ (threat → marked answer.1) ∧ (¬ threat → answer.1 = s)) ∧
      (∀ z, y = some z → z ≠ g → answer.2 = some g ∧ marked answer.1)) ∧
    (∀ o, let told := s.divergenceReport c n o
      (∀ b, r.state = .locked b → b = o → told = s) ∧
      (∀ b, r.state = .locked b → b ≠ o →
        told.point? n = some { r with state := .fault .disagreesWithAxles, driveN := false, driveR := false } ∧
        (∀ m, m ≠ n → told.point? m = s.point? m) ∧
        told.holdInbox = s.holdInbox ++ [⟨.block .pointControl, .raise .pointFault⟩] ∧
        told = { s with points := told.points, holdInbox := told.holdInbox, ports := told.ports }) ∧
      (∀ g start, r.state = .throwing g start → marked told) ∧
      (∀ k, r.state = .fault k → told = s))) ∧
  -- head passes (R104 to R108)
  (∀ (c : CutId) (p : Pass) (left : Option Step) (zone : Target) (r : CutRec) (s : State), s.cut? c = some r →
    let t := s.headPass c p left zone
    let agrees := ∀ st x, left = some st → r.path.find? (fun y => y.point == st.point) = some x → x.pos = st.pos
    let head : HeadReport := ⟨p.sensor, p.speed, p.time⟩
    let without := fun (which : Nat → Bool) => s.demands.map (fun q =>
      (q.point, (if which q.point then q.entries.filter (fun d => d.cut != c) else q.entries).map (fun d => (d.cut, d.pos))))
    let kept := t.demands.map (fun q => (q.point, q.entries.map (fun d => (d.cut, d.pos))))
    let passage := fun (frontier : Option Nat) => t.Gave (.cutPassage c p.sensor p.speed left zone frontier p.time)
    (∃ x, t.cut? c = some x ∧ x.head = some head ∧
      ∀ q ∈ t.demands, ∀ d ∈ q.entries, d.cut = c → d.toe = predictedToe s.layout x q.point) ∧
    (∀ k, k ≠ c → t.cut? k = s.cut? k) ∧ t.planned = s.planned ∧
    t.crest = s.crest ∧ t.sections = s.sections ∧
    (∀ q f z o, zone = .point q → agrees → r.speed = none → r.frontier = some f → r.path[f]? = some ⟨q, z⟩ →
      (s.point? q).map PointRec.state = some (.locked o) → passage (some (f + 1)) ∧
      (o = z → t.cut? c = some { r with head := some head, frontier := some (f + 1) } ∧ t.points = s.points ∧
        kept = without (fun n => n == q)) ∧
      (o ≠ z → ∀ d, s.diversionTrack r ⟨q, o⟩ = some d → ∃ x, t.cut? c = some x ∧ x.dest = d ∧ x.status = .diverted ∧
        x.frontier = some (f + 1) ∧ (∃ l, x.path = r.path.takeWhile (fun y => y.point != q) ++ ⟨q, o⟩ :: l) ∧
        t.Gave (.cutDiverted c .late (some ⟨q, o⟩) r.dest d .diverted x.path.length x.pathEnd))) ∧
    (∀ q, zone = .point q → agrees → r.speed = none → r.path.find? (fun y => y.point == q) = none →
      (∀ f, r.frontier = some f → r.path.length ≤ f) → passage r.frontier ∧
      t.cut? c = some { r with head := some head } ∧ kept = without (fun _ => false) ∧ t.tracks = s.tracks ∧
      t.points = (s.entryReport c q none p.speed p.time).1.points ∧ t.diversionDue = s.diversionDue ∧
      t.holdInbox = (s.entryReport c q none p.speed p.time).1.holdInbox) ∧
    (∀ d, zone = .track d → agrees → r.dest = d → passage none ∧ kept = without (fun _ => true) ∧ t.tracks = s.tracks ∧
      t.cut? c = some { r with head := some head, frontier := none, speed := none }) ∧
    (∀ st d, zone = .track d → left = some st → r.path.find? (fun y => y.point == st.point) = none → r.dest ≠ d →
      passage none ∧ t.cut? c = some { r with
        head := some head, frontier := none, speed := none, dest := d, status := .diverted } ∧
      (t.track? d).map TrackRec.committed = (s.track? d).map (fun k => k.committed + 1) ∧
      (t.track? r.dest).map TrackRec.committed = (s.track? r.dest).map (fun k => k.committed - 1) ∧
      t.Gave (.cutDiverted c .diverged (some st) r.dest d .diverted r.path.length r.pathEnd) ∧
      ((s.track? d).map TrackRec.state = some .closed →
        (⟨.block .routePlanner, .raise .intrusion⟩ : HoldClaim) ∈ t.holdInbox)) ∧
    (∀ st x, left = some st → r.path.find? (fun y => y.point == st.point) = some x → x.pos ≠ st.pos →
      let told := (s.modCut c (fun r => { r with
        head := some head,
        speed := match r.speed with
          | some v => if v.point = st.point then none else some v
          | none => none })).divergenceReport c st.point st.pos
      ∀ d, told.diversionTrack r st = some d →
        (t.cut? c).map CutRec.status = some .diverted ∧
        (∃ n e, t.Gave (.cutDiverted c .diverged (some st) r.dest d .diverted n e)) ∧
        (zone = .track d → passage none ∧ ∃ y l, t.cut? c = some y ∧ y.dest = d ∧ y.frontier = none ∧
          y.path = r.path.takeWhile (fun z => z.point != st.point) ++ st :: l)))
end

