-- ==== Sys2Proof/Laws/State.lean ====
section
/-! SUPPORT. State.lean: what each primitive update of State leaves and what it writes, one lemma for each field. -/

namespace Sys2Proof.Machine

/-! ### modPoint -/

section
variable (s : State) (n : Nat) (f : PointRec → PointRec)

@[simp] theorem modPoint_points : (s.modPoint n f).points = s.points.map (fun r => if r.num == n then f r else r) := rfl
@[simp] theorem modPoint_pending : (s.modPoint n f).pending = s.pending := rfl
@[simp] theorem modPoint_powered : (s.modPoint n f).powered = s.powered := rfl
@[simp] theorem modPoint_clock : (s.modPoint n f).clock = s.clock := rfl
@[simp] theorem modPoint_freeCount : (s.modPoint n f).freeCount = s.freeCount := rfl
@[simp] theorem modPoint_headPins : (s.modPoint n f).headPins = s.headPins := rfl
@[simp] theorem modPoint_detPins : (s.modPoint n f).detPins = s.detPins := rfl
@[simp] theorem modPoint_mode : (s.modPoint n f).mode = s.mode := rfl
@[simp] theorem modPoint_active : (s.modPoint n f).active = s.active := rfl
@[simp] theorem modPoint_load : (s.modPoint n f).load = s.load := rfl
@[simp] theorem modPoint_store : (s.modPoint n f).store = s.store := rfl
@[simp] theorem modPoint_sensors : (s.modPoint n f).sensors = s.sensors := rfl
@[simp] theorem modPoint_sections : (s.modPoint n f).sections = s.sections := rfl
@[simp] theorem modPoint_crest : (s.modPoint n f).crest = s.crest := rfl
@[simp] theorem modPoint_planned : (s.modPoint n f).planned = s.planned := rfl
@[simp] theorem modPoint_floor : (s.modPoint n f).floor = s.floor := rfl
@[simp] theorem modPoint_cuts : (s.modPoint n f).cuts = s.cuts := rfl
@[simp] theorem modPoint_demands : (s.modPoint n f).demands = s.demands := rfl
@[simp] theorem modPoint_freeze : (s.modPoint n f).freeze = s.freeze := rfl
@[simp] theorem modPoint_tracks : (s.modPoint n f).tracks = s.tracks := rfl
@[simp] theorem modPoint_custody : (s.modPoint n f).custody = s.custody := rfl
@[simp] theorem modPoint_holds : (s.modPoint n f).holds = s.holds := rfl
@[simp] theorem modPoint_relay : (s.modPoint n f).relay = s.relay := rfl
@[simp] theorem modPoint_holdInbox : (s.modPoint n f).holdInbox = s.holdInbox := rfl
@[simp] theorem modPoint_ports : (s.modPoint n f).ports = s.ports := rfl
@[simp] theorem modPoint_evalDue : (s.modPoint n f).evalDue = s.evalDue := rfl
@[simp] theorem modPoint_diversionDue : (s.modPoint n f).diversionDue = s.diversionDue := rfl
@[simp] theorem modPoint_trackReportDue : (s.modPoint n f).trackReportDue = s.trackReportDue := rfl
@[simp] theorem modPoint_stagedLeftDue : (s.modPoint n f).stagedLeftDue = s.stagedLeftDue := rfl
@[simp] theorem modPoint_freedDue : (s.modPoint n f).freedDue = s.freedDue := rfl

end

/-! ### modSection -/

section
variable (s : State) (n : Nat) (f : SectionRec → SectionRec)

@[simp] theorem modSection_sections : (s.modSection n f).sections = s.sections.map (fun r => if r.point == n then f r else r) := rfl
@[simp] theorem modSection_pending : (s.modSection n f).pending = s.pending := rfl
@[simp] theorem modSection_powered : (s.modSection n f).powered = s.powered := rfl
@[simp] theorem modSection_clock : (s.modSection n f).clock = s.clock := rfl
@[simp] theorem modSection_freeCount : (s.modSection n f).freeCount = s.freeCount := rfl
@[simp] theorem modSection_headPins : (s.modSection n f).headPins = s.headPins := rfl
@[simp] theorem modSection_detPins : (s.modSection n f).detPins = s.detPins := rfl
@[simp] theorem modSection_mode : (s.modSection n f).mode = s.mode := rfl
@[simp] theorem modSection_active : (s.modSection n f).active = s.active := rfl
@[simp] theorem modSection_load : (s.modSection n f).load = s.load := rfl
@[simp] theorem modSection_store : (s.modSection n f).store = s.store := rfl
@[simp] theorem modSection_sensors : (s.modSection n f).sensors = s.sensors := rfl
@[simp] theorem modSection_crest : (s.modSection n f).crest = s.crest := rfl
@[simp] theorem modSection_planned : (s.modSection n f).planned = s.planned := rfl
@[simp] theorem modSection_floor : (s.modSection n f).floor = s.floor := rfl
@[simp] theorem modSection_cuts : (s.modSection n f).cuts = s.cuts := rfl
@[simp] theorem modSection_demands : (s.modSection n f).demands = s.demands := rfl
@[simp] theorem modSection_points : (s.modSection n f).points = s.points := rfl
@[simp] theorem modSection_freeze : (s.modSection n f).freeze = s.freeze := rfl
@[simp] theorem modSection_tracks : (s.modSection n f).tracks = s.tracks := rfl
@[simp] theorem modSection_custody : (s.modSection n f).custody = s.custody := rfl
@[simp] theorem modSection_holds : (s.modSection n f).holds = s.holds := rfl
@[simp] theorem modSection_relay : (s.modSection n f).relay = s.relay := rfl
@[simp] theorem modSection_holdInbox : (s.modSection n f).holdInbox = s.holdInbox := rfl
@[simp] theorem modSection_ports : (s.modSection n f).ports = s.ports := rfl
@[simp] theorem modSection_evalDue : (s.modSection n f).evalDue = s.evalDue := rfl
@[simp] theorem modSection_diversionDue : (s.modSection n f).diversionDue = s.diversionDue := rfl
@[simp] theorem modSection_trackReportDue : (s.modSection n f).trackReportDue = s.trackReportDue := rfl
@[simp] theorem modSection_stagedLeftDue : (s.modSection n f).stagedLeftDue = s.stagedLeftDue := rfl
@[simp] theorem modSection_freedDue : (s.modSection n f).freedDue = s.freedDue := rfl

end

/-! ### modTrack -/

section
variable (s : State) (n : Nat) (f : TrackRec → TrackRec)

@[simp] theorem modTrack_tracks : (s.modTrack n f).tracks = s.tracks.map (fun r => if r.num == n then f r else r) := rfl
@[simp] theorem modTrack_pending : (s.modTrack n f).pending = s.pending := rfl
@[simp] theorem modTrack_powered : (s.modTrack n f).powered = s.powered := rfl
@[simp] theorem modTrack_clock : (s.modTrack n f).clock = s.clock := rfl
@[simp] theorem modTrack_freeCount : (s.modTrack n f).freeCount = s.freeCount := rfl
@[simp] theorem modTrack_headPins : (s.modTrack n f).headPins = s.headPins := rfl
@[simp] theorem modTrack_detPins : (s.modTrack n f).detPins = s.detPins := rfl
@[simp] theorem modTrack_mode : (s.modTrack n f).mode = s.mode := rfl
@[simp] theorem modTrack_active : (s.modTrack n f).active = s.active := rfl
@[simp] theorem modTrack_load : (s.modTrack n f).load = s.load := rfl
@[simp] theorem modTrack_store : (s.modTrack n f).store = s.store := rfl
@[simp] theorem modTrack_sensors : (s.modTrack n f).sensors = s.sensors := rfl
@[simp] theorem modTrack_sections : (s.modTrack n f).sections = s.sections := rfl
@[simp] theorem modTrack_crest : (s.modTrack n f).crest = s.crest := rfl
@[simp] theorem modTrack_planned : (s.modTrack n f).planned = s.planned := rfl
@[simp] theorem modTrack_floor : (s.modTrack n f).floor = s.floor := rfl
@[simp] theorem modTrack_cuts : (s.modTrack n f).cuts = s.cuts := rfl
@[simp] theorem modTrack_demands : (s.modTrack n f).demands = s.demands := rfl
@[simp] theorem modTrack_points : (s.modTrack n f).points = s.points := rfl
@[simp] theorem modTrack_freeze : (s.modTrack n f).freeze = s.freeze := rfl
@[simp] theorem modTrack_custody : (s.modTrack n f).custody = s.custody := rfl
@[simp] theorem modTrack_holds : (s.modTrack n f).holds = s.holds := rfl
@[simp] theorem modTrack_relay : (s.modTrack n f).relay = s.relay := rfl
@[simp] theorem modTrack_holdInbox : (s.modTrack n f).holdInbox = s.holdInbox := rfl
@[simp] theorem modTrack_ports : (s.modTrack n f).ports = s.ports := rfl
@[simp] theorem modTrack_evalDue : (s.modTrack n f).evalDue = s.evalDue := rfl
@[simp] theorem modTrack_diversionDue : (s.modTrack n f).diversionDue = s.diversionDue := rfl
@[simp] theorem modTrack_trackReportDue : (s.modTrack n f).trackReportDue = s.trackReportDue := rfl
@[simp] theorem modTrack_stagedLeftDue : (s.modTrack n f).stagedLeftDue = s.stagedLeftDue := rfl
@[simp] theorem modTrack_freedDue : (s.modTrack n f).freedDue = s.freedDue := rfl

end

/-! ### modCut -/

section
variable (s : State) (c : CutId) (f : CutRec → CutRec)

@[simp] theorem modCut_cuts : (s.modCut c f).cuts = s.cuts.map (fun r => if r.id == c then f r else r) := rfl
@[simp] theorem modCut_pending : (s.modCut c f).pending = s.pending := rfl
@[simp] theorem modCut_powered : (s.modCut c f).powered = s.powered := rfl
@[simp] theorem modCut_clock : (s.modCut c f).clock = s.clock := rfl
@[simp] theorem modCut_freeCount : (s.modCut c f).freeCount = s.freeCount := rfl
@[simp] theorem modCut_headPins : (s.modCut c f).headPins = s.headPins := rfl
@[simp] theorem modCut_detPins : (s.modCut c f).detPins = s.detPins := rfl
@[simp] theorem modCut_mode : (s.modCut c f).mode = s.mode := rfl
@[simp] theorem modCut_active : (s.modCut c f).active = s.active := rfl
@[simp] theorem modCut_load : (s.modCut c f).load = s.load := rfl
@[simp] theorem modCut_store : (s.modCut c f).store = s.store := rfl
@[simp] theorem modCut_sensors : (s.modCut c f).sensors = s.sensors := rfl
@[simp] theorem modCut_sections : (s.modCut c f).sections = s.sections := rfl
@[simp] theorem modCut_crest : (s.modCut c f).crest = s.crest := rfl
@[simp] theorem modCut_planned : (s.modCut c f).planned = s.planned := rfl
@[simp] theorem modCut_floor : (s.modCut c f).floor = s.floor := rfl
@[simp] theorem modCut_demands : (s.modCut c f).demands = s.demands := rfl
@[simp] theorem modCut_points : (s.modCut c f).points = s.points := rfl
@[simp] theorem modCut_freeze : (s.modCut c f).freeze = s.freeze := rfl
@[simp] theorem modCut_tracks : (s.modCut c f).tracks = s.tracks := rfl
@[simp] theorem modCut_custody : (s.modCut c f).custody = s.custody := rfl
@[simp] theorem modCut_holds : (s.modCut c f).holds = s.holds := rfl
@[simp] theorem modCut_relay : (s.modCut c f).relay = s.relay := rfl
@[simp] theorem modCut_holdInbox : (s.modCut c f).holdInbox = s.holdInbox := rfl
@[simp] theorem modCut_ports : (s.modCut c f).ports = s.ports := rfl
@[simp] theorem modCut_evalDue : (s.modCut c f).evalDue = s.evalDue := rfl
@[simp] theorem modCut_diversionDue : (s.modCut c f).diversionDue = s.diversionDue := rfl
@[simp] theorem modCut_trackReportDue : (s.modCut c f).trackReportDue = s.trackReportDue := rfl
@[simp] theorem modCut_stagedLeftDue : (s.modCut c f).stagedLeftDue = s.stagedLeftDue := rfl
@[simp] theorem modCut_freedDue : (s.modCut c f).freedDue = s.freedDue := rfl

end

/-! ### modSensor -/

section
variable (s : State) (x : Sensor) (f : SensorRec → SensorRec)

@[simp] theorem modSensor_sensors : (s.modSensor x f).sensors = s.sensors.map (fun r => if r.sensor == x then f r else r) := rfl
@[simp] theorem modSensor_pending : (s.modSensor x f).pending = s.pending := rfl
@[simp] theorem modSensor_powered : (s.modSensor x f).powered = s.powered := rfl
@[simp] theorem modSensor_clock : (s.modSensor x f).clock = s.clock := rfl
@[simp] theorem modSensor_freeCount : (s.modSensor x f).freeCount = s.freeCount := rfl
@[simp] theorem modSensor_headPins : (s.modSensor x f).headPins = s.headPins := rfl
@[simp] theorem modSensor_detPins : (s.modSensor x f).detPins = s.detPins := rfl
@[simp] theorem modSensor_mode : (s.modSensor x f).mode = s.mode := rfl
@[simp] theorem modSensor_active : (s.modSensor x f).active = s.active := rfl
@[simp] theorem modSensor_load : (s.modSensor x f).load = s.load := rfl
@[simp] theorem modSensor_store : (s.modSensor x f).store = s.store := rfl
@[simp] theorem modSensor_sections : (s.modSensor x f).sections = s.sections := rfl
@[simp] theorem modSensor_crest : (s.modSensor x f).crest = s.crest := rfl
@[simp] theorem modSensor_planned : (s.modSensor x f).planned = s.planned := rfl
@[simp] theorem modSensor_floor : (s.modSensor x f).floor = s.floor := rfl
@[simp] theorem modSensor_cuts : (s.modSensor x f).cuts = s.cuts := rfl
@[simp] theorem modSensor_demands : (s.modSensor x f).demands = s.demands := rfl
@[simp] theorem modSensor_points : (s.modSensor x f).points = s.points := rfl
@[simp] theorem modSensor_freeze : (s.modSensor x f).freeze = s.freeze := rfl
@[simp] theorem modSensor_tracks : (s.modSensor x f).tracks = s.tracks := rfl
@[simp] theorem modSensor_custody : (s.modSensor x f).custody = s.custody := rfl
@[simp] theorem modSensor_holds : (s.modSensor x f).holds = s.holds := rfl
@[simp] theorem modSensor_relay : (s.modSensor x f).relay = s.relay := rfl
@[simp] theorem modSensor_holdInbox : (s.modSensor x f).holdInbox = s.holdInbox := rfl
@[simp] theorem modSensor_ports : (s.modSensor x f).ports = s.ports := rfl
@[simp] theorem modSensor_evalDue : (s.modSensor x f).evalDue = s.evalDue := rfl
@[simp] theorem modSensor_diversionDue : (s.modSensor x f).diversionDue = s.diversionDue := rfl
@[simp] theorem modSensor_trackReportDue : (s.modSensor x f).trackReportDue = s.trackReportDue := rfl
@[simp] theorem modSensor_stagedLeftDue : (s.modSensor x f).stagedLeftDue = s.stagedLeftDue := rfl
@[simp] theorem modSensor_freedDue : (s.modSensor x f).freedDue = s.freedDue := rfl

end

/-! ### modPort -/

section
variable (s : State) (p : Port) (f : PortState → PortState)

@[simp] theorem modPort_ports : (s.modPort p f).ports = s.ports.set p (f (s.ports.get p)) := rfl
@[simp] theorem modPort_pending : (s.modPort p f).pending = s.pending := rfl
@[simp] theorem modPort_powered : (s.modPort p f).powered = s.powered := rfl
@[simp] theorem modPort_clock : (s.modPort p f).clock = s.clock := rfl
@[simp] theorem modPort_freeCount : (s.modPort p f).freeCount = s.freeCount := rfl
@[simp] theorem modPort_headPins : (s.modPort p f).headPins = s.headPins := rfl
@[simp] theorem modPort_detPins : (s.modPort p f).detPins = s.detPins := rfl
@[simp] theorem modPort_mode : (s.modPort p f).mode = s.mode := rfl
@[simp] theorem modPort_active : (s.modPort p f).active = s.active := rfl
@[simp] theorem modPort_load : (s.modPort p f).load = s.load := rfl
@[simp] theorem modPort_store : (s.modPort p f).store = s.store := rfl
@[simp] theorem modPort_sensors : (s.modPort p f).sensors = s.sensors := rfl
@[simp] theorem modPort_sections : (s.modPort p f).sections = s.sections := rfl
@[simp] theorem modPort_crest : (s.modPort p f).crest = s.crest := rfl
@[simp] theorem modPort_planned : (s.modPort p f).planned = s.planned := rfl
@[simp] theorem modPort_floor : (s.modPort p f).floor = s.floor := rfl
@[simp] theorem modPort_cuts : (s.modPort p f).cuts = s.cuts := rfl
@[simp] theorem modPort_demands : (s.modPort p f).demands = s.demands := rfl
@[simp] theorem modPort_points : (s.modPort p f).points = s.points := rfl
@[simp] theorem modPort_freeze : (s.modPort p f).freeze = s.freeze := rfl
@[simp] theorem modPort_tracks : (s.modPort p f).tracks = s.tracks := rfl
@[simp] theorem modPort_custody : (s.modPort p f).custody = s.custody := rfl
@[simp] theorem modPort_holds : (s.modPort p f).holds = s.holds := rfl
@[simp] theorem modPort_relay : (s.modPort p f).relay = s.relay := rfl
@[simp] theorem modPort_holdInbox : (s.modPort p f).holdInbox = s.holdInbox := rfl
@[simp] theorem modPort_evalDue : (s.modPort p f).evalDue = s.evalDue := rfl
@[simp] theorem modPort_diversionDue : (s.modPort p f).diversionDue = s.diversionDue := rfl
@[simp] theorem modPort_trackReportDue : (s.modPort p f).trackReportDue = s.trackReportDue := rfl
@[simp] theorem modPort_stagedLeftDue : (s.modPort p f).stagedLeftDue = s.stagedLeftDue := rfl
@[simp] theorem modPort_freedDue : (s.modPort p f).freedDue = s.freedDue := rfl

end

/-! ### modCustody -/

section
variable (s : State) (p : Port) (f : Custody → Custody)

@[simp] theorem modCustody_custody : (s.modCustody p f).custody = s.custody.set p (f (s.custody.get p)) := rfl
@[simp] theorem modCustody_pending : (s.modCustody p f).pending = s.pending := rfl
@[simp] theorem modCustody_powered : (s.modCustody p f).powered = s.powered := rfl
@[simp] theorem modCustody_clock : (s.modCustody p f).clock = s.clock := rfl
@[simp] theorem modCustody_freeCount : (s.modCustody p f).freeCount = s.freeCount := rfl
@[simp] theorem modCustody_headPins : (s.modCustody p f).headPins = s.headPins := rfl
@[simp] theorem modCustody_detPins : (s.modCustody p f).detPins = s.detPins := rfl
@[simp] theorem modCustody_mode : (s.modCustody p f).mode = s.mode := rfl
@[simp] theorem modCustody_active : (s.modCustody p f).active = s.active := rfl
@[simp] theorem modCustody_load : (s.modCustody p f).load = s.load := rfl
@[simp] theorem modCustody_store : (s.modCustody p f).store = s.store := rfl
@[simp] theorem modCustody_sensors : (s.modCustody p f).sensors = s.sensors := rfl
@[simp] theorem modCustody_sections : (s.modCustody p f).sections = s.sections := rfl
@[simp] theorem modCustody_crest : (s.modCustody p f).crest = s.crest := rfl
@[simp] theorem modCustody_planned : (s.modCustody p f).planned = s.planned := rfl
@[simp] theorem modCustody_floor : (s.modCustody p f).floor = s.floor := rfl
@[simp] theorem modCustody_cuts : (s.modCustody p f).cuts = s.cuts := rfl
@[simp] theorem modCustody_demands : (s.modCustody p f).demands = s.demands := rfl
@[simp] theorem modCustody_points : (s.modCustody p f).points = s.points := rfl
@[simp] theorem modCustody_freeze : (s.modCustody p f).freeze = s.freeze := rfl
@[simp] theorem modCustody_tracks : (s.modCustody p f).tracks = s.tracks := rfl
@[simp] theorem modCustody_holds : (s.modCustody p f).holds = s.holds := rfl
@[simp] theorem modCustody_relay : (s.modCustody p f).relay = s.relay := rfl
@[simp] theorem modCustody_holdInbox : (s.modCustody p f).holdInbox = s.holdInbox := rfl
@[simp] theorem modCustody_ports : (s.modCustody p f).ports = s.ports := rfl
@[simp] theorem modCustody_evalDue : (s.modCustody p f).evalDue = s.evalDue := rfl
@[simp] theorem modCustody_diversionDue : (s.modCustody p f).diversionDue = s.diversionDue := rfl
@[simp] theorem modCustody_trackReportDue : (s.modCustody p f).trackReportDue = s.trackReportDue := rfl
@[simp] theorem modCustody_stagedLeftDue : (s.modCustody p f).stagedLeftDue = s.stagedLeftDue := rfl
@[simp] theorem modCustody_freedDue : (s.modCustody p f).freedDue = s.freedDue := rfl

end

/-! ### modQueue -/

section
variable (s : State) (n : Nat) (f : List Demand → List Demand)

@[simp] theorem modQueue_pending : (s.modQueue n f).pending = s.pending := rfl
@[simp] theorem modQueue_powered : (s.modQueue n f).powered = s.powered := rfl
@[simp] theorem modQueue_clock : (s.modQueue n f).clock = s.clock := rfl
@[simp] theorem modQueue_freeCount : (s.modQueue n f).freeCount = s.freeCount := rfl
@[simp] theorem modQueue_headPins : (s.modQueue n f).headPins = s.headPins := rfl
@[simp] theorem modQueue_detPins : (s.modQueue n f).detPins = s.detPins := rfl
@[simp] theorem modQueue_mode : (s.modQueue n f).mode = s.mode := rfl
@[simp] theorem modQueue_active : (s.modQueue n f).active = s.active := rfl
@[simp] theorem modQueue_load : (s.modQueue n f).load = s.load := rfl
@[simp] theorem modQueue_store : (s.modQueue n f).store = s.store := rfl
@[simp] theorem modQueue_sensors : (s.modQueue n f).sensors = s.sensors := rfl
@[simp] theorem modQueue_sections : (s.modQueue n f).sections = s.sections := rfl
@[simp] theorem modQueue_crest : (s.modQueue n f).crest = s.crest := rfl
@[simp] theorem modQueue_planned : (s.modQueue n f).planned = s.planned := rfl
@[simp] theorem modQueue_floor : (s.modQueue n f).floor = s.floor := rfl
@[simp] theorem modQueue_cuts : (s.modQueue n f).cuts = s.cuts := rfl
@[simp] theorem modQueue_points : (s.modQueue n f).points = s.points := rfl
@[simp] theorem modQueue_freeze : (s.modQueue n f).freeze = s.freeze := rfl
@[simp] theorem modQueue_tracks : (s.modQueue n f).tracks = s.tracks := rfl
@[simp] theorem modQueue_custody : (s.modQueue n f).custody = s.custody := rfl
@[simp] theorem modQueue_holds : (s.modQueue n f).holds = s.holds := rfl
@[simp] theorem modQueue_relay : (s.modQueue n f).relay = s.relay := rfl
@[simp] theorem modQueue_holdInbox : (s.modQueue n f).holdInbox = s.holdInbox := rfl
@[simp] theorem modQueue_ports : (s.modQueue n f).ports = s.ports := rfl
@[simp] theorem modQueue_evalDue : (s.modQueue n f).evalDue = s.evalDue := rfl
@[simp] theorem modQueue_diversionDue : (s.modQueue n f).diversionDue = s.diversionDue := rfl
@[simp] theorem modQueue_trackReportDue : (s.modQueue n f).trackReportDue = s.trackReportDue := rfl
@[simp] theorem modQueue_stagedLeftDue : (s.modQueue n f).stagedLeftDue = s.stagedLeftDue := rfl
@[simp] theorem modQueue_freedDue : (s.modQueue n f).freedDue = s.freedDue := rfl

end

/-! ### give -/

section
variable (s : State) (b : NoticeBody)

@[simp] theorem give_ports : (s.give b).ports = s.ports.map (fun q => { q with given := q.given ++ [⟨s.now, b⟩] }) := rfl
@[simp] theorem give_pending : (s.give b).pending = s.pending := rfl
@[simp] theorem give_powered : (s.give b).powered = s.powered := rfl
@[simp] theorem give_clock : (s.give b).clock = s.clock := rfl
@[simp] theorem give_freeCount : (s.give b).freeCount = s.freeCount := rfl
@[simp] theorem give_headPins : (s.give b).headPins = s.headPins := rfl
@[simp] theorem give_detPins : (s.give b).detPins = s.detPins := rfl
@[simp] theorem give_mode : (s.give b).mode = s.mode := rfl
@[simp] theorem give_active : (s.give b).active = s.active := rfl
@[simp] theorem give_load : (s.give b).load = s.load := rfl
@[simp] theorem give_store : (s.give b).store = s.store := rfl
@[simp] theorem give_sensors : (s.give b).sensors = s.sensors := rfl
@[simp] theorem give_sections : (s.give b).sections = s.sections := rfl
@[simp] theorem give_crest : (s.give b).crest = s.crest := rfl
@[simp] theorem give_planned : (s.give b).planned = s.planned := rfl
@[simp] theorem give_floor : (s.give b).floor = s.floor := rfl
@[simp] theorem give_cuts : (s.give b).cuts = s.cuts := rfl
@[simp] theorem give_demands : (s.give b).demands = s.demands := rfl
@[simp] theorem give_points : (s.give b).points = s.points := rfl
@[simp] theorem give_freeze : (s.give b).freeze = s.freeze := rfl
@[simp] theorem give_tracks : (s.give b).tracks = s.tracks := rfl
@[simp] theorem give_custody : (s.give b).custody = s.custody := rfl
@[simp] theorem give_holds : (s.give b).holds = s.holds := rfl
@[simp] theorem give_relay : (s.give b).relay = s.relay := rfl
@[simp] theorem give_holdInbox : (s.give b).holdInbox = s.holdInbox := rfl
@[simp] theorem give_evalDue : (s.give b).evalDue = s.evalDue := rfl
@[simp] theorem give_diversionDue : (s.give b).diversionDue = s.diversionDue := rfl
@[simp] theorem give_trackReportDue : (s.give b).trackReportDue = s.trackReportDue := rfl
@[simp] theorem give_stagedLeftDue : (s.give b).stagedLeftDue = s.stagedLeftDue := rfl
@[simp] theorem give_freedDue : (s.give b).freedDue = s.freedDue := rfl

end

/-! ### claim -/

section
variable (s : State) (b : Block) (op : HoldOp)

@[simp] theorem claim_holdInbox : (s.claim b op).holdInbox = s.holdInbox ++ [⟨.block b, op⟩] := rfl
@[simp] theorem claim_pending : (s.claim b op).pending = s.pending := rfl
@[simp] theorem claim_powered : (s.claim b op).powered = s.powered := rfl
@[simp] theorem claim_clock : (s.claim b op).clock = s.clock := rfl
@[simp] theorem claim_freeCount : (s.claim b op).freeCount = s.freeCount := rfl
@[simp] theorem claim_headPins : (s.claim b op).headPins = s.headPins := rfl
@[simp] theorem claim_detPins : (s.claim b op).detPins = s.detPins := rfl
@[simp] theorem claim_mode : (s.claim b op).mode = s.mode := rfl
@[simp] theorem claim_active : (s.claim b op).active = s.active := rfl
@[simp] theorem claim_load : (s.claim b op).load = s.load := rfl
@[simp] theorem claim_store : (s.claim b op).store = s.store := rfl
@[simp] theorem claim_sensors : (s.claim b op).sensors = s.sensors := rfl
@[simp] theorem claim_sections : (s.claim b op).sections = s.sections := rfl
@[simp] theorem claim_crest : (s.claim b op).crest = s.crest := rfl
@[simp] theorem claim_planned : (s.claim b op).planned = s.planned := rfl
@[simp] theorem claim_floor : (s.claim b op).floor = s.floor := rfl
@[simp] theorem claim_cuts : (s.claim b op).cuts = s.cuts := rfl
@[simp] theorem claim_demands : (s.claim b op).demands = s.demands := rfl
@[simp] theorem claim_points : (s.claim b op).points = s.points := rfl
@[simp] theorem claim_freeze : (s.claim b op).freeze = s.freeze := rfl
@[simp] theorem claim_tracks : (s.claim b op).tracks = s.tracks := rfl
@[simp] theorem claim_custody : (s.claim b op).custody = s.custody := rfl
@[simp] theorem claim_holds : (s.claim b op).holds = s.holds := rfl
@[simp] theorem claim_relay : (s.claim b op).relay = s.relay := rfl
@[simp] theorem claim_ports : (s.claim b op).ports = s.ports := rfl
@[simp] theorem claim_evalDue : (s.claim b op).evalDue = s.evalDue := rfl
@[simp] theorem claim_diversionDue : (s.claim b op).diversionDue = s.diversionDue := rfl
@[simp] theorem claim_trackReportDue : (s.claim b op).trackReportDue = s.trackReportDue := rfl
@[simp] theorem claim_stagedLeftDue : (s.claim b op).stagedLeftDue = s.stagedLeftDue := rfl
@[simp] theorem claim_freedDue : (s.claim b op).freedDue = s.freedDue := rfl

end

/-! ### evaluateLater -/

section
variable (s : State) (n : Nat) (a : Bool)

@[simp] theorem evaluateLater_evalDue : (s.evaluateLater n a).evalDue = s.evalDue ++ [⟨n, a⟩] := rfl
@[simp] theorem evaluateLater_pending : (s.evaluateLater n a).pending = s.pending := rfl
@[simp] theorem evaluateLater_powered : (s.evaluateLater n a).powered = s.powered := rfl
@[simp] theorem evaluateLater_clock : (s.evaluateLater n a).clock = s.clock := rfl
@[simp] theorem evaluateLater_freeCount : (s.evaluateLater n a).freeCount = s.freeCount := rfl
@[simp] theorem evaluateLater_headPins : (s.evaluateLater n a).headPins = s.headPins := rfl
@[simp] theorem evaluateLater_detPins : (s.evaluateLater n a).detPins = s.detPins := rfl
@[simp] theorem evaluateLater_mode : (s.evaluateLater n a).mode = s.mode := rfl
@[simp] theorem evaluateLater_active : (s.evaluateLater n a).active = s.active := rfl
@[simp] theorem evaluateLater_load : (s.evaluateLater n a).load = s.load := rfl
@[simp] theorem evaluateLater_store : (s.evaluateLater n a).store = s.store := rfl
@[simp] theorem evaluateLater_sensors : (s.evaluateLater n a).sensors = s.sensors := rfl
@[simp] theorem evaluateLater_sections : (s.evaluateLater n a).sections = s.sections := rfl
@[simp] theorem evaluateLater_crest : (s.evaluateLater n a).crest = s.crest := rfl
@[simp] theorem evaluateLater_planned : (s.evaluateLater n a).planned = s.planned := rfl
@[simp] theorem evaluateLater_floor : (s.evaluateLater n a).floor = s.floor := rfl
@[simp] theorem evaluateLater_cuts : (s.evaluateLater n a).cuts = s.cuts := rfl
@[simp] theorem evaluateLater_demands : (s.evaluateLater n a).demands = s.demands := rfl
@[simp] theorem evaluateLater_points : (s.evaluateLater n a).points = s.points := rfl
@[simp] theorem evaluateLater_freeze : (s.evaluateLater n a).freeze = s.freeze := rfl
@[simp] theorem evaluateLater_tracks : (s.evaluateLater n a).tracks = s.tracks := rfl
@[simp] theorem evaluateLater_custody : (s.evaluateLater n a).custody = s.custody := rfl
@[simp] theorem evaluateLater_holds : (s.evaluateLater n a).holds = s.holds := rfl
@[simp] theorem evaluateLater_relay : (s.evaluateLater n a).relay = s.relay := rfl
@[simp] theorem evaluateLater_holdInbox : (s.evaluateLater n a).holdInbox = s.holdInbox := rfl
@[simp] theorem evaluateLater_ports : (s.evaluateLater n a).ports = s.ports := rfl
@[simp] theorem evaluateLater_diversionDue : (s.evaluateLater n a).diversionDue = s.diversionDue := rfl
@[simp] theorem evaluateLater_trackReportDue : (s.evaluateLater n a).trackReportDue = s.trackReportDue := rfl
@[simp] theorem evaluateLater_stagedLeftDue : (s.evaluateLater n a).stagedLeftDue = s.stagedLeftDue := rfl
@[simp] theorem evaluateLater_freedDue : (s.evaluateLater n a).freedDue = s.freedDue := rfl

end

/-! ### askDiversion -/

section
variable (s : State) (c : CutId) (n : Nat) (k : RequestCause) (o : Pos)

@[simp] theorem askDiversion_diversionDue : (s.askDiversion c n k o).diversionDue = s.diversionDue ++ [⟨c, n, k, o⟩] := rfl
@[simp] theorem askDiversion_pending : (s.askDiversion c n k o).pending = s.pending := rfl
@[simp] theorem askDiversion_powered : (s.askDiversion c n k o).powered = s.powered := rfl
@[simp] theorem askDiversion_clock : (s.askDiversion c n k o).clock = s.clock := rfl
@[simp] theorem askDiversion_freeCount : (s.askDiversion c n k o).freeCount = s.freeCount := rfl
@[simp] theorem askDiversion_headPins : (s.askDiversion c n k o).headPins = s.headPins := rfl
@[simp] theorem askDiversion_detPins : (s.askDiversion c n k o).detPins = s.detPins := rfl
@[simp] theorem askDiversion_mode : (s.askDiversion c n k o).mode = s.mode := rfl
@[simp] theorem askDiversion_active : (s.askDiversion c n k o).active = s.active := rfl
@[simp] theorem askDiversion_load : (s.askDiversion c n k o).load = s.load := rfl
@[simp] theorem askDiversion_store : (s.askDiversion c n k o).store = s.store := rfl
@[simp] theorem askDiversion_sensors : (s.askDiversion c n k o).sensors = s.sensors := rfl
@[simp] theorem askDiversion_sections : (s.askDiversion c n k o).sections = s.sections := rfl
@[simp] theorem askDiversion_crest : (s.askDiversion c n k o).crest = s.crest := rfl
@[simp] theorem askDiversion_planned : (s.askDiversion c n k o).planned = s.planned := rfl
@[simp] theorem askDiversion_floor : (s.askDiversion c n k o).floor = s.floor := rfl
@[simp] theorem askDiversion_cuts : (s.askDiversion c n k o).cuts = s.cuts := rfl
@[simp] theorem askDiversion_demands : (s.askDiversion c n k o).demands = s.demands := rfl
@[simp] theorem askDiversion_points : (s.askDiversion c n k o).points = s.points := rfl
@[simp] theorem askDiversion_freeze : (s.askDiversion c n k o).freeze = s.freeze := rfl
@[simp] theorem askDiversion_tracks : (s.askDiversion c n k o).tracks = s.tracks := rfl
@[simp] theorem askDiversion_custody : (s.askDiversion c n k o).custody = s.custody := rfl
@[simp] theorem askDiversion_holds : (s.askDiversion c n k o).holds = s.holds := rfl
@[simp] theorem askDiversion_relay : (s.askDiversion c n k o).relay = s.relay := rfl
@[simp] theorem askDiversion_holdInbox : (s.askDiversion c n k o).holdInbox = s.holdInbox := rfl
@[simp] theorem askDiversion_ports : (s.askDiversion c n k o).ports = s.ports := rfl
@[simp] theorem askDiversion_evalDue : (s.askDiversion c n k o).evalDue = s.evalDue := rfl
@[simp] theorem askDiversion_trackReportDue : (s.askDiversion c n k o).trackReportDue = s.trackReportDue := rfl
@[simp] theorem askDiversion_stagedLeftDue : (s.askDiversion c n k o).stagedLeftDue = s.stagedLeftDue := rfl
@[simp] theorem askDiversion_freedDue : (s.askDiversion c n k o).freedDue = s.freedDue := rfl

end

/-! ### reportTrack -/

section
variable (s : State) (t : Nat)

@[simp] theorem reportTrack_trackReportDue : (s.reportTrack t).trackReportDue = s.trackReportDue ++ [t] := rfl
@[simp] theorem reportTrack_pending : (s.reportTrack t).pending = s.pending := rfl
@[simp] theorem reportTrack_powered : (s.reportTrack t).powered = s.powered := rfl
@[simp] theorem reportTrack_clock : (s.reportTrack t).clock = s.clock := rfl
@[simp] theorem reportTrack_freeCount : (s.reportTrack t).freeCount = s.freeCount := rfl
@[simp] theorem reportTrack_headPins : (s.reportTrack t).headPins = s.headPins := rfl
@[simp] theorem reportTrack_detPins : (s.reportTrack t).detPins = s.detPins := rfl
@[simp] theorem reportTrack_mode : (s.reportTrack t).mode = s.mode := rfl
@[simp] theorem reportTrack_active : (s.reportTrack t).active = s.active := rfl
@[simp] theorem reportTrack_load : (s.reportTrack t).load = s.load := rfl
@[simp] theorem reportTrack_store : (s.reportTrack t).store = s.store := rfl
@[simp] theorem reportTrack_sensors : (s.reportTrack t).sensors = s.sensors := rfl
@[simp] theorem reportTrack_sections : (s.reportTrack t).sections = s.sections := rfl
@[simp] theorem reportTrack_crest : (s.reportTrack t).crest = s.crest := rfl
@[simp] theorem reportTrack_planned : (s.reportTrack t).planned = s.planned := rfl
@[simp] theorem reportTrack_floor : (s.reportTrack t).floor = s.floor := rfl
@[simp] theorem reportTrack_cuts : (s.reportTrack t).cuts = s.cuts := rfl
@[simp] theorem reportTrack_demands : (s.reportTrack t).demands = s.demands := rfl
@[simp] theorem reportTrack_points : (s.reportTrack t).points = s.points := rfl
@[simp] theorem reportTrack_freeze : (s.reportTrack t).freeze = s.freeze := rfl
@[simp] theorem reportTrack_tracks : (s.reportTrack t).tracks = s.tracks := rfl
@[simp] theorem reportTrack_custody : (s.reportTrack t).custody = s.custody := rfl
@[simp] theorem reportTrack_holds : (s.reportTrack t).holds = s.holds := rfl
@[simp] theorem reportTrack_relay : (s.reportTrack t).relay = s.relay := rfl
@[simp] theorem reportTrack_holdInbox : (s.reportTrack t).holdInbox = s.holdInbox := rfl
@[simp] theorem reportTrack_ports : (s.reportTrack t).ports = s.ports := rfl
@[simp] theorem reportTrack_evalDue : (s.reportTrack t).evalDue = s.evalDue := rfl
@[simp] theorem reportTrack_diversionDue : (s.reportTrack t).diversionDue = s.diversionDue := rfl
@[simp] theorem reportTrack_stagedLeftDue : (s.reportTrack t).stagedLeftDue = s.stagedLeftDue := rfl
@[simp] theorem reportTrack_freedDue : (s.reportTrack t).freedDue = s.freedDue := rfl

end

/-! ### stagedLeft -/

section
variable (s : State)

@[simp] theorem stagedLeft_stagedLeftDue : (s.stagedLeft).stagedLeftDue = true := rfl
@[simp] theorem stagedLeft_pending : (s.stagedLeft).pending = s.pending := rfl
@[simp] theorem stagedLeft_powered : (s.stagedLeft).powered = s.powered := rfl
@[simp] theorem stagedLeft_clock : (s.stagedLeft).clock = s.clock := rfl
@[simp] theorem stagedLeft_freeCount : (s.stagedLeft).freeCount = s.freeCount := rfl
@[simp] theorem stagedLeft_headPins : (s.stagedLeft).headPins = s.headPins := rfl
@[simp] theorem stagedLeft_detPins : (s.stagedLeft).detPins = s.detPins := rfl
@[simp] theorem stagedLeft_mode : (s.stagedLeft).mode = s.mode := rfl
@[simp] theorem stagedLeft_active : (s.stagedLeft).active = s.active := rfl
@[simp] theorem stagedLeft_load : (s.stagedLeft).load = s.load := rfl
@[simp] theorem stagedLeft_store : (s.stagedLeft).store = s.store := rfl
@[simp] theorem stagedLeft_sensors : (s.stagedLeft).sensors = s.sensors := rfl
@[simp] theorem stagedLeft_sections : (s.stagedLeft).sections = s.sections := rfl
@[simp] theorem stagedLeft_crest : (s.stagedLeft).crest = s.crest := rfl
@[simp] theorem stagedLeft_planned : (s.stagedLeft).planned = s.planned := rfl
@[simp] theorem stagedLeft_floor : (s.stagedLeft).floor = s.floor := rfl
@[simp] theorem stagedLeft_cuts : (s.stagedLeft).cuts = s.cuts := rfl
@[simp] theorem stagedLeft_demands : (s.stagedLeft).demands = s.demands := rfl
@[simp] theorem stagedLeft_points : (s.stagedLeft).points = s.points := rfl
@[simp] theorem stagedLeft_freeze : (s.stagedLeft).freeze = s.freeze := rfl
@[simp] theorem stagedLeft_tracks : (s.stagedLeft).tracks = s.tracks := rfl
@[simp] theorem stagedLeft_custody : (s.stagedLeft).custody = s.custody := rfl
@[simp] theorem stagedLeft_holds : (s.stagedLeft).holds = s.holds := rfl
@[simp] theorem stagedLeft_relay : (s.stagedLeft).relay = s.relay := rfl
@[simp] theorem stagedLeft_holdInbox : (s.stagedLeft).holdInbox = s.holdInbox := rfl
@[simp] theorem stagedLeft_ports : (s.stagedLeft).ports = s.ports := rfl
@[simp] theorem stagedLeft_evalDue : (s.stagedLeft).evalDue = s.evalDue := rfl
@[simp] theorem stagedLeft_diversionDue : (s.stagedLeft).diversionDue = s.diversionDue := rfl
@[simp] theorem stagedLeft_trackReportDue : (s.stagedLeft).trackReportDue = s.trackReportDue := rfl
@[simp] theorem stagedLeft_freedDue : (s.stagedLeft).freedDue = s.freedDue := rfl

end

/-! ### freed -/

section
variable (s : State)

@[simp] theorem freed_freedDue : (s.freed).freedDue = true := rfl
@[simp] theorem freed_pending : (s.freed).pending = s.pending := rfl
@[simp] theorem freed_powered : (s.freed).powered = s.powered := rfl
@[simp] theorem freed_clock : (s.freed).clock = s.clock := rfl
@[simp] theorem freed_freeCount : (s.freed).freeCount = s.freeCount := rfl
@[simp] theorem freed_headPins : (s.freed).headPins = s.headPins := rfl
@[simp] theorem freed_detPins : (s.freed).detPins = s.detPins := rfl
@[simp] theorem freed_mode : (s.freed).mode = s.mode := rfl
@[simp] theorem freed_active : (s.freed).active = s.active := rfl
@[simp] theorem freed_load : (s.freed).load = s.load := rfl
@[simp] theorem freed_store : (s.freed).store = s.store := rfl
@[simp] theorem freed_sensors : (s.freed).sensors = s.sensors := rfl
@[simp] theorem freed_sections : (s.freed).sections = s.sections := rfl
@[simp] theorem freed_crest : (s.freed).crest = s.crest := rfl
@[simp] theorem freed_planned : (s.freed).planned = s.planned := rfl
@[simp] theorem freed_floor : (s.freed).floor = s.floor := rfl
@[simp] theorem freed_cuts : (s.freed).cuts = s.cuts := rfl
@[simp] theorem freed_demands : (s.freed).demands = s.demands := rfl
@[simp] theorem freed_points : (s.freed).points = s.points := rfl
@[simp] theorem freed_freeze : (s.freed).freeze = s.freeze := rfl
@[simp] theorem freed_tracks : (s.freed).tracks = s.tracks := rfl
@[simp] theorem freed_custody : (s.freed).custody = s.custody := rfl
@[simp] theorem freed_holds : (s.freed).holds = s.holds := rfl
@[simp] theorem freed_relay : (s.freed).relay = s.relay := rfl
@[simp] theorem freed_holdInbox : (s.freed).holdInbox = s.holdInbox := rfl
@[simp] theorem freed_ports : (s.freed).ports = s.ports := rfl
@[simp] theorem freed_evalDue : (s.freed).evalDue = s.evalDue := rfl
@[simp] theorem freed_diversionDue : (s.freed).diversionDue = s.diversionDue := rfl
@[simp] theorem freed_trackReportDue : (s.freed).trackReportDue = s.trackReportDue := rfl
@[simp] theorem freed_stagedLeftDue : (s.freed).stagedLeftDue = s.stagedLeftDue := rfl

end

end Sys2Proof.Machine
end

