-- ==== Sys2Proof/Laws/Event.lean ====
section
/-! SUPPORT. Event.lean: what closing an event leaves and writes, and what a request that is handed on at once does. -/

namespace Sys2Proof.Machine

/-! ### One value for each port -/

@[simp] theorem PerPort.get_set {α : Type} (q : PerPort α) (p : Port) (a : α) : (q.set p a).get p = a := by
  cases p <;> rfl

theorem PerPort.get_set_ne {α : Type} (q : PerPort α) {p r : Port} (a : α) (h : r ≠ p) :
    (q.set p a).get r = q.get r := by
  cases p <;> cases r <;> first | rfl | exact absurd rfl h

@[simp] theorem PerPort.get_map {α : Type} (q : PerPort α) (p : Port) (f : α → α) : (q.map f).get p = f (q.get p) := by
  cases p <;> rfl

@[simp] theorem PerPort.set_set {α : Type} (q : PerPort α) (p : Port) (a b : α) : (q.set p a).set p b = q.set p b := by
  cases p <;> rfl

@[simp] theorem PerPort.set_get {α : Type} (q : PerPort α) (p : Port) : q.set p (q.get p) = q := by
  cases p <;> rfl

theorem PerPort.ext {α : Type} {q r : PerPort α} (h : ∀ p, q.get p = r.get p) : q = r := by
  have a := h .planning
  have b := h .crest
  have c := h .speed
  have d := h .bowl
  cases q; cases r
  simp only [PerPort.get] at a b c d
  subst a; subst b; subst c; subst d; rfl

/-! ### The line -/

theorem startLine_of_busy (now : YardTime) (q : PortState) (f : OutFrame) (h : q.line = some f) :
    startLine now q = q := by
  simp [startLine, h]

@[simp] theorem startLine_given (now : YardTime) (q : PortState) : (startLine now q).given = q.given := by
  unfold startLine; repeat' split
  all_goals rfl

@[simp] theorem startLine_working (now : YardTime) (q : PortState) : (startLine now q).working = q.working := by
  unfold startLine; repeat' split
  all_goals rfl

@[simp] theorem startLine_waiting (now : YardTime) (q : PortState) : (startLine now q).waiting = q.waiting := by
  unfold startLine; repeat' split
  all_goals rfl

@[simp] theorem startLine_urgent (now : YardTime) (q : PortState) : (startLine now q).urgent = q.urgent := by
  unfold startLine; repeat' split
  all_goals rfl

@[simp] theorem startLine_mask (now : YardTime) (q : PortState) : (startLine now q).mask = q.mask := by
  unfold startLine; repeat' split
  all_goals rfl

@[simp] theorem startLine_rx (now : YardTime) (q : PortState) : (startLine now q).rx = q.rx := by
  unfold startLine; repeat' split
  all_goals rfl

/-- An answer that a port holds is on its line or still queued after the line starts. -/
theorem startLine_keeps (now : YardTime) (q : PortState) (a : QueuedAnswer) (h : a ∈ q.answers) :
    (startLine now q).line = some (.answer a.answer) ∨ a ∈ (startLine now q).answers := by
  unfold startLine
  split
  · exact Or.inr h
  · split
    · rename_i b rest e
      rw [e] at h
      rcases List.mem_cons.mp h with e' | e'
      · exact Or.inl (by rw [e'])
      · exact Or.inr e'
    · rename_i e
      rw [e] at h
      exact absurd h List.not_mem_nil

/-! ### startLines -/

@[simp] theorem startLines_pending (s : State) : (s.startLines).pending = s.pending := rfl
@[simp] theorem startLines_powered (s : State) : (s.startLines).powered = s.powered := rfl
@[simp] theorem startLines_clock (s : State) : (s.startLines).clock = s.clock := rfl
@[simp] theorem startLines_freeCount (s : State) : (s.startLines).freeCount = s.freeCount := rfl
@[simp] theorem startLines_headPins (s : State) : (s.startLines).headPins = s.headPins := rfl
@[simp] theorem startLines_detPins (s : State) : (s.startLines).detPins = s.detPins := rfl
@[simp] theorem startLines_mode (s : State) : (s.startLines).mode = s.mode := rfl
@[simp] theorem startLines_active (s : State) : (s.startLines).active = s.active := rfl
@[simp] theorem startLines_load (s : State) : (s.startLines).load = s.load := rfl
@[simp] theorem startLines_store (s : State) : (s.startLines).store = s.store := rfl
@[simp] theorem startLines_sensors (s : State) : (s.startLines).sensors = s.sensors := rfl
@[simp] theorem startLines_sections (s : State) : (s.startLines).sections = s.sections := rfl
@[simp] theorem startLines_crest (s : State) : (s.startLines).crest = s.crest := rfl
@[simp] theorem startLines_planned (s : State) : (s.startLines).planned = s.planned := rfl
@[simp] theorem startLines_floor (s : State) : (s.startLines).floor = s.floor := rfl
@[simp] theorem startLines_cuts (s : State) : (s.startLines).cuts = s.cuts := rfl
@[simp] theorem startLines_demands (s : State) : (s.startLines).demands = s.demands := rfl
@[simp] theorem startLines_points (s : State) : (s.startLines).points = s.points := rfl
@[simp] theorem startLines_freeze (s : State) : (s.startLines).freeze = s.freeze := rfl
@[simp] theorem startLines_tracks (s : State) : (s.startLines).tracks = s.tracks := rfl
@[simp] theorem startLines_custody (s : State) : (s.startLines).custody = s.custody := rfl
@[simp] theorem startLines_holds (s : State) : (s.startLines).holds = s.holds := rfl
@[simp] theorem startLines_relay (s : State) : (s.startLines).relay = s.relay := rfl
@[simp] theorem startLines_holdInbox (s : State) : (s.startLines).holdInbox = s.holdInbox := rfl
@[simp] theorem startLines_evalDue (s : State) : (s.startLines).evalDue = s.evalDue := rfl
@[simp] theorem startLines_diversionDue (s : State) : (s.startLines).diversionDue = s.diversionDue := rfl
@[simp] theorem startLines_trackReportDue (s : State) : (s.startLines).trackReportDue = s.trackReportDue := rfl
@[simp] theorem startLines_stagedLeftDue (s : State) : (s.startLines).stagedLeftDue = s.stagedLeftDue := rfl
@[simp] theorem startLines_freedDue (s : State) : (s.startLines).freedDue = s.freedDue := rfl

/-! ### reportHeads -/

@[simp] theorem reportHeads_pending (s b : State) : (s.reportHeads b).pending = s.pending := rfl
@[simp] theorem reportHeads_powered (s b : State) : (s.reportHeads b).powered = s.powered := rfl
@[simp] theorem reportHeads_clock (s b : State) : (s.reportHeads b).clock = s.clock := rfl
@[simp] theorem reportHeads_freeCount (s b : State) : (s.reportHeads b).freeCount = s.freeCount := rfl
@[simp] theorem reportHeads_headPins (s b : State) : (s.reportHeads b).headPins = s.headPins := rfl
@[simp] theorem reportHeads_detPins (s b : State) : (s.reportHeads b).detPins = s.detPins := rfl
@[simp] theorem reportHeads_mode (s b : State) : (s.reportHeads b).mode = s.mode := rfl
@[simp] theorem reportHeads_active (s b : State) : (s.reportHeads b).active = s.active := rfl
@[simp] theorem reportHeads_load (s b : State) : (s.reportHeads b).load = s.load := rfl
@[simp] theorem reportHeads_store (s b : State) : (s.reportHeads b).store = s.store := rfl
@[simp] theorem reportHeads_sensors (s b : State) : (s.reportHeads b).sensors = s.sensors := rfl
@[simp] theorem reportHeads_sections (s b : State) : (s.reportHeads b).sections = s.sections := rfl
@[simp] theorem reportHeads_crest (s b : State) : (s.reportHeads b).crest = s.crest := rfl
@[simp] theorem reportHeads_planned (s b : State) : (s.reportHeads b).planned = s.planned := rfl
@[simp] theorem reportHeads_floor (s b : State) : (s.reportHeads b).floor = s.floor := rfl
@[simp] theorem reportHeads_cuts (s b : State) : (s.reportHeads b).cuts = s.cuts := rfl
@[simp] theorem reportHeads_demands (s b : State) : (s.reportHeads b).demands = s.demands := rfl
@[simp] theorem reportHeads_points (s b : State) : (s.reportHeads b).points = s.points := rfl
@[simp] theorem reportHeads_freeze (s b : State) : (s.reportHeads b).freeze = s.freeze := rfl
@[simp] theorem reportHeads_tracks (s b : State) : (s.reportHeads b).tracks = s.tracks := rfl
@[simp] theorem reportHeads_custody (s b : State) : (s.reportHeads b).custody = s.custody := rfl
@[simp] theorem reportHeads_holds (s b : State) : (s.reportHeads b).holds = s.holds := rfl
@[simp] theorem reportHeads_relay (s b : State) : (s.reportHeads b).relay = s.relay := rfl
@[simp] theorem reportHeads_holdInbox (s b : State) : (s.reportHeads b).holdInbox = s.holdInbox := rfl
@[simp] theorem reportHeads_ports (s b : State) : (s.reportHeads b).ports = s.ports := rfl
@[simp] theorem reportHeads_diversionDue (s b : State) : (s.reportHeads b).diversionDue = s.diversionDue := rfl
@[simp] theorem reportHeads_trackReportDue (s b : State) : (s.reportHeads b).trackReportDue = s.trackReportDue := rfl
@[simp] theorem reportHeads_stagedLeftDue (s b : State) : (s.reportHeads b).stagedLeftDue = s.stagedLeftDue := rfl
@[simp] theorem reportHeads_freedDue (s b : State) : (s.reportHeads b).freedDue = s.freedDue := rfl

/-! ### drained -/

@[simp] theorem drained_pending (s : State) : (s.drained).pending = s.pending := by
  unfold State.drained; split <;> rfl
@[simp] theorem drained_powered (s : State) : (s.drained).powered = s.powered := by
  unfold State.drained; split <;> rfl
@[simp] theorem drained_clock (s : State) : (s.drained).clock = s.clock := by
  unfold State.drained; split <;> rfl
@[simp] theorem drained_freeCount (s : State) : (s.drained).freeCount = s.freeCount := by
  unfold State.drained; split <;> rfl
@[simp] theorem drained_headPins (s : State) : (s.drained).headPins = s.headPins := by
  unfold State.drained; split <;> rfl
@[simp] theorem drained_detPins (s : State) : (s.drained).detPins = s.detPins := by
  unfold State.drained; split <;> rfl
@[simp] theorem drained_active (s : State) : (s.drained).active = s.active := by
  unfold State.drained; split <;> rfl
@[simp] theorem drained_load (s : State) : (s.drained).load = s.load := by
  unfold State.drained; split <;> rfl
@[simp] theorem drained_store (s : State) : (s.drained).store = s.store := by
  unfold State.drained; split <;> rfl
@[simp] theorem drained_sensors (s : State) : (s.drained).sensors = s.sensors := by
  unfold State.drained; split <;> rfl
@[simp] theorem drained_sections (s : State) : (s.drained).sections = s.sections := by
  unfold State.drained; split <;> rfl
@[simp] theorem drained_crest (s : State) : (s.drained).crest = s.crest := by
  unfold State.drained; split <;> rfl
@[simp] theorem drained_planned (s : State) : (s.drained).planned = s.planned := by
  unfold State.drained; split <;> rfl
@[simp] theorem drained_floor (s : State) : (s.drained).floor = s.floor := by
  unfold State.drained; split <;> rfl
@[simp] theorem drained_cuts (s : State) : (s.drained).cuts = s.cuts := by
  unfold State.drained; split <;> rfl
@[simp] theorem drained_demands (s : State) : (s.drained).demands = s.demands := by
  unfold State.drained; split <;> rfl
@[simp] theorem drained_points (s : State) : (s.drained).points = s.points := by
  unfold State.drained; split <;> rfl
@[simp] theorem drained_freeze (s : State) : (s.drained).freeze = s.freeze := by
  unfold State.drained; split <;> rfl
@[simp] theorem drained_tracks (s : State) : (s.drained).tracks = s.tracks := by
  unfold State.drained; split <;> rfl
@[simp] theorem drained_custody (s : State) : (s.drained).custody = s.custody := by
  unfold State.drained; split <;> rfl
@[simp] theorem drained_holds (s : State) : (s.drained).holds = s.holds := by
  unfold State.drained; split <;> rfl
@[simp] theorem drained_relay (s : State) : (s.drained).relay = s.relay := by
  unfold State.drained; split <;> rfl
@[simp] theorem drained_holdInbox (s : State) : (s.drained).holdInbox = s.holdInbox := by
  unfold State.drained; split <;> rfl
@[simp] theorem drained_evalDue (s : State) : (s.drained).evalDue = s.evalDue := by
  unfold State.drained; split <;> rfl
@[simp] theorem drained_diversionDue (s : State) : (s.drained).diversionDue = s.diversionDue := by
  unfold State.drained; split <;> rfl
@[simp] theorem drained_trackReportDue (s : State) : (s.drained).trackReportDue = s.trackReportDue := by
  unfold State.drained; split <;> rfl
@[simp] theorem drained_stagedLeftDue (s : State) : (s.drained).stagedLeftDue = s.stagedLeftDue := by
  unfold State.drained; split <;> rfl
@[simp] theorem drained_freedDue (s : State) : (s.drained).freedDue = s.freedDue := by
  unfold State.drained; split <;> rfl

/-! ### holdUpdate -/

@[simp] theorem holdUpdate_pending (s : State) (src : HoldSource) (ops : List HoldOp) : (s.holdUpdate src ops).pending = s.pending := by
  unfold State.holdUpdate; dsimp only; (repeat' split) <;> rfl
@[simp] theorem holdUpdate_powered (s : State) (src : HoldSource) (ops : List HoldOp) : (s.holdUpdate src ops).powered = s.powered := by
  unfold State.holdUpdate; dsimp only; (repeat' split) <;> rfl
@[simp] theorem holdUpdate_clock (s : State) (src : HoldSource) (ops : List HoldOp) : (s.holdUpdate src ops).clock = s.clock := by
  unfold State.holdUpdate; dsimp only; (repeat' split) <;> rfl
@[simp] theorem holdUpdate_freeCount (s : State) (src : HoldSource) (ops : List HoldOp) : (s.holdUpdate src ops).freeCount = s.freeCount := by
  unfold State.holdUpdate; dsimp only; (repeat' split) <;> rfl
@[simp] theorem holdUpdate_headPins (s : State) (src : HoldSource) (ops : List HoldOp) : (s.holdUpdate src ops).headPins = s.headPins := by
  unfold State.holdUpdate; dsimp only; (repeat' split) <;> rfl
@[simp] theorem holdUpdate_detPins (s : State) (src : HoldSource) (ops : List HoldOp) : (s.holdUpdate src ops).detPins = s.detPins := by
  unfold State.holdUpdate; dsimp only; (repeat' split) <;> rfl
@[simp] theorem holdUpdate_mode (s : State) (src : HoldSource) (ops : List HoldOp) : (s.holdUpdate src ops).mode = s.mode := by
  unfold State.holdUpdate; dsimp only; (repeat' split) <;> rfl
@[simp] theorem holdUpdate_active (s : State) (src : HoldSource) (ops : List HoldOp) : (s.holdUpdate src ops).active = s.active := by
  unfold State.holdUpdate; dsimp only; (repeat' split) <;> rfl
@[simp] theorem holdUpdate_load (s : State) (src : HoldSource) (ops : List HoldOp) : (s.holdUpdate src ops).load = s.load := by
  unfold State.holdUpdate; dsimp only; (repeat' split) <;> rfl
@[simp] theorem holdUpdate_store (s : State) (src : HoldSource) (ops : List HoldOp) : (s.holdUpdate src ops).store = s.store := by
  unfold State.holdUpdate; dsimp only; (repeat' split) <;> rfl
@[simp] theorem holdUpdate_sensors (s : State) (src : HoldSource) (ops : List HoldOp) : (s.holdUpdate src ops).sensors = s.sensors := by
  unfold State.holdUpdate; dsimp only; (repeat' split) <;> rfl
@[simp] theorem holdUpdate_sections (s : State) (src : HoldSource) (ops : List HoldOp) : (s.holdUpdate src ops).sections = s.sections := by
  unfold State.holdUpdate; dsimp only; (repeat' split) <;> rfl
@[simp] theorem holdUpdate_crest (s : State) (src : HoldSource) (ops : List HoldOp) : (s.holdUpdate src ops).crest = s.crest := by
  unfold State.holdUpdate; dsimp only; (repeat' split) <;> rfl
@[simp] theorem holdUpdate_planned (s : State) (src : HoldSource) (ops : List HoldOp) : (s.holdUpdate src ops).planned = s.planned := by
  unfold State.holdUpdate; dsimp only; (repeat' split) <;> rfl
@[simp] theorem holdUpdate_floor (s : State) (src : HoldSource) (ops : List HoldOp) : (s.holdUpdate src ops).floor = s.floor := by
  unfold State.holdUpdate; dsimp only; (repeat' split) <;> rfl
@[simp] theorem holdUpdate_cuts (s : State) (src : HoldSource) (ops : List HoldOp) : (s.holdUpdate src ops).cuts = s.cuts := by
  unfold State.holdUpdate; dsimp only; (repeat' split) <;> rfl
@[simp] theorem holdUpdate_demands (s : State) (src : HoldSource) (ops : List HoldOp) : (s.holdUpdate src ops).demands = s.demands := by
  unfold State.holdUpdate; dsimp only; (repeat' split) <;> rfl
@[simp] theorem holdUpdate_points (s : State) (src : HoldSource) (ops : List HoldOp) : (s.holdUpdate src ops).points = s.points := by
  unfold State.holdUpdate; dsimp only; (repeat' split) <;> rfl
@[simp] theorem holdUpdate_freeze (s : State) (src : HoldSource) (ops : List HoldOp) : (s.holdUpdate src ops).freeze = s.freeze := by
  unfold State.holdUpdate; dsimp only; (repeat' split) <;> rfl
@[simp] theorem holdUpdate_tracks (s : State) (src : HoldSource) (ops : List HoldOp) : (s.holdUpdate src ops).tracks = s.tracks := by
  unfold State.holdUpdate; dsimp only; (repeat' split) <;> rfl
@[simp] theorem holdUpdate_custody (s : State) (src : HoldSource) (ops : List HoldOp) : (s.holdUpdate src ops).custody = s.custody := by
  unfold State.holdUpdate; dsimp only; (repeat' split) <;> rfl
@[simp] theorem holdUpdate_holdInbox (s : State) (src : HoldSource) (ops : List HoldOp) : (s.holdUpdate src ops).holdInbox = s.holdInbox := by
  unfold State.holdUpdate; dsimp only; (repeat' split) <;> rfl
@[simp] theorem holdUpdate_evalDue (s : State) (src : HoldSource) (ops : List HoldOp) : (s.holdUpdate src ops).evalDue = s.evalDue := by
  unfold State.holdUpdate; dsimp only; (repeat' split) <;> rfl
@[simp] theorem holdUpdate_diversionDue (s : State) (src : HoldSource) (ops : List HoldOp) : (s.holdUpdate src ops).diversionDue = s.diversionDue := by
  unfold State.holdUpdate; dsimp only; (repeat' split) <;> rfl
@[simp] theorem holdUpdate_trackReportDue (s : State) (src : HoldSource) (ops : List HoldOp) : (s.holdUpdate src ops).trackReportDue = s.trackReportDue := by
  unfold State.holdUpdate; dsimp only; (repeat' split) <;> rfl
@[simp] theorem holdUpdate_stagedLeftDue (s : State) (src : HoldSource) (ops : List HoldOp) : (s.holdUpdate src ops).stagedLeftDue = s.stagedLeftDue := by
  unfold State.holdUpdate; dsimp only; (repeat' split) <;> rfl
@[simp] theorem holdUpdate_freedDue (s : State) (src : HoldSource) (ops : List HoldOp) : (s.holdUpdate src ops).freedDue = s.freedDue := by
  unfold State.holdUpdate; dsimp only; (repeat' split) <;> rfl

/-! ### settleHolds -/

/-- A fold that keeps a field keeps it. -/
theorem foldl_keeps {α β : Type} (g : State → β) (f : State → α → State) (h : ∀ s a, g (f s a) = g s) (l : List α)
    (s : State) : g (l.foldl f s) = g s := by
  induction l generalizing s with
  | nil => rfl
  | cons a as ih => exact (ih _).trans (h s a)

/-- What every update of the hold set keeps, the settling of an event keeps. -/
theorem settleHolds_keeps {β : Type} (g : State → β) (hu : ∀ (s : State) (src : HoldSource) (ops : List HoldOp),
    g (s.holdUpdate src ops) = g s) (s : State) (src : Option HoldSource)
    (hi : g { s with holdInbox := [] } = g s) : g (s.settleHolds src) = g s := by
  unfold State.settleHolds
  dsimp only
  rw [hu]
  split
  · split
    · exact hi
    · rw [hu]; exact hi
  · rw [foldl_keeps g _ (fun u b => hu u b _)]; exact hi

@[simp] theorem settleHolds_pending (s : State) (src : Option HoldSource) :
    (s.settleHolds src).pending = s.pending :=
  settleHolds_keeps State.pending (fun _ _ _ => holdUpdate_pending _ _ _) s src rfl
@[simp] theorem settleHolds_powered (s : State) (src : Option HoldSource) :
    (s.settleHolds src).powered = s.powered :=
  settleHolds_keeps State.powered (fun _ _ _ => holdUpdate_powered _ _ _) s src rfl
@[simp] theorem settleHolds_clock (s : State) (src : Option HoldSource) :
    (s.settleHolds src).clock = s.clock :=
  settleHolds_keeps State.clock (fun _ _ _ => holdUpdate_clock _ _ _) s src rfl
@[simp] theorem settleHolds_freeCount (s : State) (src : Option HoldSource) :
    (s.settleHolds src).freeCount = s.freeCount :=
  settleHolds_keeps State.freeCount (fun _ _ _ => holdUpdate_freeCount _ _ _) s src rfl
@[simp] theorem settleHolds_headPins (s : State) (src : Option HoldSource) :
    (s.settleHolds src).headPins = s.headPins :=
  settleHolds_keeps State.headPins (fun _ _ _ => holdUpdate_headPins _ _ _) s src rfl
@[simp] theorem settleHolds_detPins (s : State) (src : Option HoldSource) :
    (s.settleHolds src).detPins = s.detPins :=
  settleHolds_keeps State.detPins (fun _ _ _ => holdUpdate_detPins _ _ _) s src rfl
@[simp] theorem settleHolds_mode (s : State) (src : Option HoldSource) :
    (s.settleHolds src).mode = s.mode :=
  settleHolds_keeps State.mode (fun _ _ _ => holdUpdate_mode _ _ _) s src rfl
@[simp] theorem settleHolds_active (s : State) (src : Option HoldSource) :
    (s.settleHolds src).active = s.active :=
  settleHolds_keeps State.active (fun _ _ _ => holdUpdate_active _ _ _) s src rfl
@[simp] theorem settleHolds_load (s : State) (src : Option HoldSource) :
    (s.settleHolds src).load = s.load :=
  settleHolds_keeps State.load (fun _ _ _ => holdUpdate_load _ _ _) s src rfl
@[simp] theorem settleHolds_store (s : State) (src : Option HoldSource) :
    (s.settleHolds src).store = s.store :=
  settleHolds_keeps State.store (fun _ _ _ => holdUpdate_store _ _ _) s src rfl
@[simp] theorem settleHolds_sensors (s : State) (src : Option HoldSource) :
    (s.settleHolds src).sensors = s.sensors :=
  settleHolds_keeps State.sensors (fun _ _ _ => holdUpdate_sensors _ _ _) s src rfl
@[simp] theorem settleHolds_sections (s : State) (src : Option HoldSource) :
    (s.settleHolds src).sections = s.sections :=
  settleHolds_keeps State.sections (fun _ _ _ => holdUpdate_sections _ _ _) s src rfl
@[simp] theorem settleHolds_crest (s : State) (src : Option HoldSource) :
    (s.settleHolds src).crest = s.crest :=
  settleHolds_keeps State.crest (fun _ _ _ => holdUpdate_crest _ _ _) s src rfl
@[simp] theorem settleHolds_planned (s : State) (src : Option HoldSource) :
    (s.settleHolds src).planned = s.planned :=
  settleHolds_keeps State.planned (fun _ _ _ => holdUpdate_planned _ _ _) s src rfl
@[simp] theorem settleHolds_floor (s : State) (src : Option HoldSource) :
    (s.settleHolds src).floor = s.floor :=
  settleHolds_keeps State.floor (fun _ _ _ => holdUpdate_floor _ _ _) s src rfl
@[simp] theorem settleHolds_cuts (s : State) (src : Option HoldSource) :
    (s.settleHolds src).cuts = s.cuts :=
  settleHolds_keeps State.cuts (fun _ _ _ => holdUpdate_cuts _ _ _) s src rfl
@[simp] theorem settleHolds_demands (s : State) (src : Option HoldSource) :
    (s.settleHolds src).demands = s.demands :=
  settleHolds_keeps State.demands (fun _ _ _ => holdUpdate_demands _ _ _) s src rfl
@[simp] theorem settleHolds_points (s : State) (src : Option HoldSource) :
    (s.settleHolds src).points = s.points :=
  settleHolds_keeps State.points (fun _ _ _ => holdUpdate_points _ _ _) s src rfl
@[simp] theorem settleHolds_freeze (s : State) (src : Option HoldSource) :
    (s.settleHolds src).freeze = s.freeze :=
  settleHolds_keeps State.freeze (fun _ _ _ => holdUpdate_freeze _ _ _) s src rfl
@[simp] theorem settleHolds_tracks (s : State) (src : Option HoldSource) :
    (s.settleHolds src).tracks = s.tracks :=
  settleHolds_keeps State.tracks (fun _ _ _ => holdUpdate_tracks _ _ _) s src rfl
@[simp] theorem settleHolds_custody (s : State) (src : Option HoldSource) :
    (s.settleHolds src).custody = s.custody :=
  settleHolds_keeps State.custody (fun _ _ _ => holdUpdate_custody _ _ _) s src rfl
@[simp] theorem settleHolds_evalDue (s : State) (src : Option HoldSource) :
    (s.settleHolds src).evalDue = s.evalDue :=
  settleHolds_keeps State.evalDue (fun _ _ _ => holdUpdate_evalDue _ _ _) s src rfl
@[simp] theorem settleHolds_diversionDue (s : State) (src : Option HoldSource) :
    (s.settleHolds src).diversionDue = s.diversionDue :=
  settleHolds_keeps State.diversionDue (fun _ _ _ => holdUpdate_diversionDue _ _ _) s src rfl
@[simp] theorem settleHolds_trackReportDue (s : State) (src : Option HoldSource) :
    (s.settleHolds src).trackReportDue = s.trackReportDue :=
  settleHolds_keeps State.trackReportDue (fun _ _ _ => holdUpdate_trackReportDue _ _ _) s src rfl
@[simp] theorem settleHolds_stagedLeftDue (s : State) (src : Option HoldSource) :
    (s.settleHolds src).stagedLeftDue = s.stagedLeftDue :=
  settleHolds_keeps State.stagedLeftDue (fun _ _ _ => holdUpdate_stagedLeftDue _ _ _) s src rfl
@[simp] theorem settleHolds_freedDue (s : State) (src : Option HoldSource) :
    (s.settleHolds src).freedDue = s.freedDue :=
  settleHolds_keeps State.freedDue (fun _ _ _ => holdUpdate_freedDue _ _ _) s src rfl

@[simp] theorem settleHolds_holdInbox (s : State) (src : Option HoldSource) : (s.settleHolds src).holdInbox = [] := by
  unfold State.settleHolds
  dsimp only
  rw [holdUpdate_holdInbox]
  split
  · split
    · rfl
    · rw [holdUpdate_holdInbox]
  · rw [foldl_keeps State.holdInbox _ (fun u b => holdUpdate_holdInbox u b _)]

/-- HUMP PROCEED stands as judged after every update (R173). -/
theorem holdUpdate_relay (s : State) (src : HoldSource) (ops : List HoldOp) :
    (s.holdUpdate src ops).relay = relayJudgement (s.holdUpdate src ops).mode (s.holdUpdate src ops).holds := by
  unfold State.holdUpdate
  dsimp only
  (repeat' split) <;> rfl

theorem settleHolds_relay (s : State) (src : Option HoldSource) :
    (s.settleHolds src).relay = relayJudgement (s.settleHolds src).mode (s.settleHolds src).holds := by
  unfold State.settleHolds
  exact holdUpdate_relay _ _ _

/-- The mode after the end of DRAINING has been looked at (R20). -/
theorem drained_mode (s : State) :
    s.drained.mode = if s.mode = .draining ∧ ¬ s.hasMoving then .standby else s.mode := by
  unfold State.drained
  split <;> rfl

/-! ### finish -/

@[simp] theorem finish_pending (s b : State) (src : Option HoldSource) : (s.finish b src).pending = s.pending := by
  simp [State.finish]
@[simp] theorem finish_powered (s b : State) (src : Option HoldSource) : (s.finish b src).powered = s.powered := by
  simp [State.finish]
@[simp] theorem finish_clock (s b : State) (src : Option HoldSource) : (s.finish b src).clock = s.clock := by
  simp [State.finish]
@[simp] theorem finish_freeCount (s b : State) (src : Option HoldSource) : (s.finish b src).freeCount = s.freeCount := by
  simp [State.finish]
@[simp] theorem finish_headPins (s b : State) (src : Option HoldSource) : (s.finish b src).headPins = s.headPins := by
  simp [State.finish]
@[simp] theorem finish_detPins (s b : State) (src : Option HoldSource) : (s.finish b src).detPins = s.detPins := by
  simp [State.finish]
@[simp] theorem finish_active (s b : State) (src : Option HoldSource) : (s.finish b src).active = s.active := by
  simp [State.finish]
@[simp] theorem finish_load (s b : State) (src : Option HoldSource) : (s.finish b src).load = s.load := by
  simp [State.finish]
@[simp] theorem finish_store (s b : State) (src : Option HoldSource) : (s.finish b src).store = s.store := by
  simp [State.finish]
@[simp] theorem finish_sensors (s b : State) (src : Option HoldSource) : (s.finish b src).sensors = s.sensors := by
  simp [State.finish]
@[simp] theorem finish_sections (s b : State) (src : Option HoldSource) : (s.finish b src).sections = s.sections := by
  simp [State.finish]
@[simp] theorem finish_crest (s b : State) (src : Option HoldSource) : (s.finish b src).crest = s.crest := by
  simp [State.finish]
@[simp] theorem finish_planned (s b : State) (src : Option HoldSource) : (s.finish b src).planned = s.planned := by
  simp [State.finish]
@[simp] theorem finish_floor (s b : State) (src : Option HoldSource) : (s.finish b src).floor = s.floor := by
  simp [State.finish]
@[simp] theorem finish_cuts (s b : State) (src : Option HoldSource) : (s.finish b src).cuts = s.cuts := by
  simp [State.finish]
@[simp] theorem finish_demands (s b : State) (src : Option HoldSource) : (s.finish b src).demands = s.demands := by
  simp [State.finish]
@[simp] theorem finish_points (s b : State) (src : Option HoldSource) : (s.finish b src).points = s.points := by
  simp [State.finish]
@[simp] theorem finish_freeze (s b : State) (src : Option HoldSource) : (s.finish b src).freeze = s.freeze := by
  simp [State.finish]
@[simp] theorem finish_tracks (s b : State) (src : Option HoldSource) : (s.finish b src).tracks = s.tracks := by
  simp [State.finish]
@[simp] theorem finish_custody (s b : State) (src : Option HoldSource) : (s.finish b src).custody = s.custody := by
  simp [State.finish]
@[simp] theorem finish_diversionDue (s b : State) (src : Option HoldSource) : (s.finish b src).diversionDue = s.diversionDue := by
  simp [State.finish]
@[simp] theorem finish_trackReportDue (s b : State) (src : Option HoldSource) : (s.finish b src).trackReportDue = s.trackReportDue := by
  simp [State.finish]
@[simp] theorem finish_stagedLeftDue (s b : State) (src : Option HoldSource) : (s.finish b src).stagedLeftDue = s.stagedLeftDue := by
  simp [State.finish]
@[simp] theorem finish_freedDue (s b : State) (src : Option HoldSource) : (s.finish b src).freedDue = s.freedDue := by
  simp [State.finish]

@[simp] theorem finish_holdInbox (s b : State) (src : Option HoldSource) : (s.finish b src).holdInbox = [] := by
  simp [State.finish]

theorem finish_mode (s b : State) (src : Option HoldSource) :
    (s.finish b src).mode = if s.mode = .draining ∧ ¬ s.hasMoving then .standby else s.mode := by
  simp [State.finish, drained_mode, State.hasMoving]

theorem finish_evalDue (s b : State) (src : Option HoldSource) :
    (s.finish b src).evalDue = s.evalDue ++
      ((s.demands.filter (fun q => s.headOf q.point != b.headOf q.point)).map (fun q => ⟨q.point, false⟩)) := by
  simp [State.finish, State.reportHeads]

/-- Every event ends settled (R20, R172, R173). -/
theorem finish_settled (s b : State) (src : Option HoldSource) : (s.finish b src).Settled := by
  refine ⟨finish_holdInbox s b src, ?_, ?_⟩
  · unfold State.relayRight State.finish
    simp only [startLines_relay, startLines_mode, startLines_holds]
    exact settleHolds_relay _ _
  · intro h
    rw [finish_mode] at h
    unfold State.hasMoving
    rw [finish_cuts]
    split at h
    · exact absurd h (by decide)
    · rename_i hn
      exact Classical.byContradiction (fun hm => hn ⟨h, hm⟩)

/-- Ports differ only in notices added to those given to them (R189). -/
def Hears (s t : State) : Prop :=
  ∀ p : Port, ∃ l, t.ports.get p = { s.ports.get p with given := (s.ports.get p).given ++ l }

theorem Hears.refl (s : State) : Hears s s := fun p => ⟨[], by simp⟩

theorem Hears.trans {s t u : State} (h : Hears s t) (k : Hears t u) : Hears s u := by
  intro p
  obtain ⟨l, e⟩ := h p
  obtain ⟨m, f⟩ := k p
  exact ⟨l ++ m, by rw [f, e]; simp⟩

theorem Hears.of_ports {s t : State} (h : t.ports = s.ports) : Hears s t := fun p => ⟨[], by rw [h]; simp⟩

theorem hears_give (s : State) (b : NoticeBody) : Hears s (s.give b) := fun p => ⟨[⟨s.now, b⟩], by simp⟩

theorem hears_drained (s : State) : Hears s s.drained := by
  unfold State.drained
  split
  · exact Hears.trans (Hears.of_ports rfl) (hears_give _ _)
  · exact Hears.refl s

theorem hears_holdUpdate (s : State) (src : HoldSource) (ops : List HoldOp) : Hears s (s.holdUpdate src ops) := by
  unfold State.holdUpdate
  dsimp only
  repeat' split
  all_goals first
    | exact Hears.of_ports rfl
    | exact Hears.trans (Hears.of_ports rfl) (hears_give _ _)

theorem hears_foldl {α : Type} (f : State → α → State) (h : ∀ s a, Hears s (f s a)) (l : List α) (s : State) :
    Hears s (l.foldl f s) := by
  induction l generalizing s with
  | nil => exact Hears.refl s
  | cons a as ih => exact (h s a).trans (ih _)

theorem hears_settleHolds (s : State) (src : Option HoldSource) : Hears s (s.settleHolds src) := by
  unfold State.settleHolds
  dsimp only
  refine Hears.trans ?_ (hears_holdUpdate _ _ _)
  split
  · split
    · exact Hears.of_ports rfl
    · exact Hears.trans (Hears.of_ports rfl) (hears_holdUpdate _ _ _)
  · exact Hears.trans (Hears.of_ports rfl) (hears_foldl _ (fun u b => hears_holdUpdate u b _) _ _)

/-- What closing an event does to a port: notices may be given to it, and its line starts (R187, R189). -/
theorem finish_port (s b : State) (src : Option HoldSource) (p : Port) :
    ∃ l, (s.finish b src).ports.get p =
      startLine s.now { s.ports.get p with given := (s.ports.get p).given ++ l } := by
  have h : Hears s ((s.reportHeads b).drained.settleHolds src) :=
    Hears.trans (t := s.reportHeads b) (Hears.of_ports rfl) ((hears_drained _).trans (hears_settleHolds _ _))
  obtain ⟨l, e⟩ := h p
  refine ⟨l, ?_⟩
  have hn : ((s.reportHeads b).drained.settleHolds src).now = s.now := by simp [State.now]
  unfold State.finish State.startLines
  simp only [PerPort.get_map, hn, e]

/-- A notice given in an event is still to be taken when the event ends. -/
theorem finish_keeps_given (s b : State) (src : Option HoldSource) (p : Port) (n : Notice)
    (h : n ∈ (s.ports.get p).given) : n ∈ ((s.finish b src).ports.get p).given := by
  obtain ⟨l, e⟩ := finish_port s b src p
  rw [e]
  simp [h]

/-- An answer placed in an event is on the line or queued when the event ends. -/
theorem finish_answered (s b : State) (src : Option HoldSource) (p : Port) (tag code : Nat) (r : Reply)
    (k : AnswerKind) (h : (⟨k, ⟨tag, code, r⟩⟩ : QueuedAnswer) ∈ (s.ports.get p).answers) :
    (s.finish b src).Answered p tag code r := by
  obtain ⟨l, e⟩ := finish_port s b src p
  unfold State.Answered
  rw [e]
  rcases startLine_keeps s.now { s.ports.get p with given := (s.ports.get p).given ++ l } _ h with q | q
  · exact Or.inl q
  · exact Or.inr ⟨k, q⟩

/-- An event that changes nothing in a settled state only starts the free lines. -/
theorem finish_unchanged (s : State) (src : Option HoldSource) (h : s.Settled) : s.finish s src = s.startLines := by
  obtain ⟨hi, hr, hd⟩ := h
  have h1 : s.reportHeads s = s := by
    unfold State.reportHeads
    have e : s.demands.filter (fun q => s.headOf q.point != s.headOf q.point) = [] := by simp
    rw [e]; simp
  have h2 : s.drained = s := by
    unfold State.drained
    rw [if_neg (fun c => c.2 (hd c.1))]
  have h3 : s.settleHolds src = s := by
    unfold State.relayRight at hr
    have e : ({ s with holdInbox := [] } : State) = s := by cases s; simp only at hi; rw [hi]
    cases src <;> simp [State.settleHolds, hi, claimSources, State.holdUpdate, ← hr, e]
  unfold State.finish
  rw [h1, h2, h3]

/-- Of the state in which an event began, only the queues' heads matter (R103). -/
theorem finish_before (s b b' : State) (src : Option HoldSource) (h : b.demands = b'.demands) :
    s.finish b src = s.finish b' src := by
  unfold State.finish State.reportHeads State.headOf State.queueOf
  rw [h]

/-! ### Requests -/

/-- A request whose port is ready is taken as it arrives. -/
theorem arrive_ready (q : PortState) (cmd : Instr) (tag code : Nat) (h : q.working = none)
    (ha : q.hasAnswer .ordinary = false) (hu : q.readyUrgent = none) :
    q.arrive cmd tag code = ({ q with working := some ⟨cmd, true, false⟩ }, true) := by
  have e : ({ q with working := some ⟨cmd, false, false⟩ } : PortState).hasAnswer .ordinary = false := ha
  have u : ({ q with working := some ⟨cmd, false, false⟩ } : PortState).readyUrgent = none := hu
  simp [PortState.arrive, h, PortState.place, PortState.ready, e, u]

theorem arriveUrgent_ready (q : PortState) (cmd : Instr) (tag code : Nat) (h : q.urgent = none)
    (ha : q.hasAnswer .urgent = false) :
    q.arriveUrgent cmd tag code = (q, true) := by
  have e : ({ q with urgent := some cmd } : PortState).hasAnswer .urgent = false := ha
  have e2 : ({ q with urgent := none } : PortState) = q := by cases q; simp_all
  simp [PortState.arriveUrgent, h, PortState.placeUrgent, PortState.readyUrgent, e, e2]

/-- The state in which the work of a request starts: its command stands in the working slot, taken. -/
def State.taking (s : State) (p : Port) (cmd : Instr) : State :=
  s.modPort p (fun q => { q with working := some ⟨cmd, true, false⟩ })

/-- What a request at a ready port does, when its work answers. -/
theorem request_ready (p : Port) (tag code : Nat) (cmd : Instr) (work : State → State × Option Reply) (s : State)
    (h : s.ready p) (u : State) (r : Reply) (hw : work (s.taking p cmd) = (u, some r)) :
    request p tag code cmd work s =
      .next ((u.modPort p (fun q => q.answer tag code r)).finish s (some (.request code p))) := by
  obtain ⟨hp, hq, ha, hu⟩ := h
  unfold request
  rw [if_pos hp]
  dsimp only
  rw [arrive_ready _ _ _ _ hq ha hu]
  simp only [if_true]
  have e : ({ s with ports := s.ports.set p { s.ports.get p with working := some ⟨cmd, true, false⟩ } } : State)
      = s.taking p cmd := rfl
  rw [e, hw]

/-- A request held in the working slot is handed on when it may be; it keeps its discard mark (R184, R192). -/
theorem arrive_held (q : PortState) (cmd : Instr) (tag code : Nat) (d : Bool) (h : q.working = some ⟨cmd, false, d⟩)
    (ha : q.hasAnswer .ordinary = false) (hu : q.readyUrgent = none) :
    q.arrive cmd tag code = ({ q with working := some ⟨cmd, true, d⟩ }, true) := by
  simp [PortState.arrive, h, PortState.ready, ha, hu]

/-- What a request that is taken does: its work from the port as it then stands, the answer, and the end of the event. -/
theorem request_taken (p : Port) (tag code : Nat) (cmd : Instr) (work : State → State × Option Reply) (s : State)
    (q : PortState) (hp : s.powered = true) (h : (s.ports.get p).arrive cmd tag code = (q, true)) :
    request p tag code cmd work s =
      .next ((match (work (s.modPort p (fun _ => q))).2 with
        | some r => (work (s.modPort p (fun _ => q))).1.modPort p (fun q => q.answer tag code r)
        | none => (work (s.modPort p (fun _ => q))).1).finish s (some (.request code p))) := by
  unfold request
  rw [if_pos hp]
  dsimp only
  rw [h]
  rfl

/-- A request held in the working slot runs as one that arrives at the port with that slot empty. -/
theorem request_held (p : Port) (tag code : Nat) (cmd : Instr) (work : State → State × Option Reply) (s : State)
    (hp : s.powered = true) (h : (s.ports.get p).working = some ⟨cmd, false, false⟩)
    (ha : (s.ports.get p).hasAnswer .ordinary = false) (hu : (s.ports.get p).readyUrgent = none) :
    request p tag code cmd work s = request p tag code cmd work (s.modPort p (fun q => { q with working := none })) := by
  let u : State := s.modPort p (fun q => { q with working := none })
  have g : u.ports.get p = { s.ports.get p with working := none } := PerPort.get_set _ _ _
  have e : (u.ports.get p).arrive cmd tag code = ({ s.ports.get p with working := some ⟨cmd, true, false⟩ }, true) := by
    rw [g]
    exact arrive_ready _ _ _ _ rfl ha hu
  have e2 : u.modPort p (fun _ => { s.ports.get p with working := some ⟨cmd, true, false⟩ }) =
      s.modPort p (fun _ => { s.ports.get p with working := some ⟨cmd, true, false⟩ }) := by
    simp [u, State.modPort]
  show _ = request p tag code cmd work u
  rw [request_taken p tag code cmd work s _ hp (arrive_held _ _ _ _ _ h ha hu), request_taken p tag code cmd work u _ hp e,
    e2, finish_before _ s u _ rfl]

/-- The work of a request that a reset has marked is done, and its answer is not queued (R192). -/
theorem request_discards (p : Port) (tag code : Nat) (cmd : Instr) (work : State → State × Option Reply) (s u : State)
    (r : Reply) (hp : s.powered = true) (h : (s.ports.get p).working = some ⟨cmd, false, true⟩)
    (ha : (s.ports.get p).hasAnswer .ordinary = false) (hu : (s.ports.get p).readyUrgent = none)
    (hw : work (s.modPort p (fun q => { q with working := some ⟨cmd, true, true⟩ })) = (u, some r))
    (hk : (u.ports.get p).working = some ⟨cmd, true, true⟩) :
    request p tag code cmd work s = .next ((u.modPort p (fun q => { q with
      working := q.waiting.map (fun c => ⟨c, false, false⟩), waiting := none })).finish s (some (.request code p))) := by
  rw [request_taken p tag code cmd work s _ hp (arrive_held _ _ _ _ _ h ha hu)]
  have e : (s.modPort p fun _ => { s.ports.get p with working := some ⟨cmd, true, true⟩ }) =
      s.modPort p (fun q => { q with working := some ⟨cmd, true, true⟩ }) := rfl
  rw [e, hw]
  simp [State.modPort, PortState.answer, hk]

/-- A request that only answers leaves everything but its port, and the lines that start. -/
theorem request_answers (p : Port) (tag code : Nat) (cmd : Instr) (work : State → State × Option Reply) (s : State)
    (h : s.ready p) (hs : s.Settled) (r : Reply) (hw : work (s.taking p cmd) = (s.taking p cmd, some r)) :
    request p tag code cmd work s = .next (s.served p tag code r) := by
  rw [request_ready p tag code cmd work s h _ r hw]
  have key : (s.taking p cmd).modPort p (fun q => q.answer tag code r) =
      s.modPort p (fun q => { q with
        answers := q.answers ++ [⟨.ordinary, ⟨tag, code, r⟩⟩],
        working := q.waiting.map (fun c => ⟨c, false, false⟩), waiting := none }) := by
    simp [State.taking, State.modPort, PortState.answer]
  rw [key]
  have hset : (s.modPort p (fun q => { q with
        answers := q.answers ++ [⟨.ordinary, ⟨tag, code, r⟩⟩],
        working := q.waiting.map (fun c => ⟨c, false, false⟩), waiting := none })).Settled := hs
  rw [finish_before _ s (s.modPort p (fun q => { q with
        answers := q.answers ++ [⟨.ordinary, ⟨tag, code, r⟩⟩],
        working := q.waiting.map (fun c => ⟨c, false, false⟩), waiting := none })) _ rfl, finish_unchanged _ _ hset]
  rfl

/-- The checks of R185 and R17 let a request through. -/
theorem judge_fits {α : Type} (p : Port) (code : Nat) (a : α) (run : α → State → State × Option Reply) (s : State)
    (hr : roleMay code p = true) (hm : s.mode = .setup → takenInSetup code = true) :
    judge p code (.fits a) run s = run a s := by
  simp only [judge, hr, Bool.not_true, Bool.false_eq_true, if_false]
  split
  · rename_i h
    exact absurd (hm h.1) h.2
  · rfl

/-- A request its role may not make is DENIED (R183, R185). -/
theorem judge_denied {α : Type} (p : Port) (code : Nat) (f : Fields α) (run : α → State → State × Option Reply)
    (s : State) (hr : roleMay code p = false) : judge p code f run s = (s, some (Reply.plain .denied)) := by
  simp [judge, hr]

/-- In SETUP a request that is not taken there is answered WRONG MODE (R17). -/
theorem judge_setup {α : Type} (p : Port) (code : Nat) (a : α) (run : α → State → State × Option Reply) (s : State)
    (hr : roleMay code p = true) (hm : s.mode = .setup) (hc : takenInSetup code = false) :
    judge p code (.fits a) run s = (s, some (Reply.plain .wrongMode)) := by
  simp [judge, hr, hm, hc]

/-- An urgent frame at a ready port is taken as it arrives (R186). -/
theorem urgentRequest_ready (p : Port) (tag code : Nat) (cmd : Instr) (work : State → State × Option Reply) (s : State)
    (h : s.readyUrgent p) (u : State) (r : Reply) (hw : work s = (u, some r)) :
    urgentRequest p tag code cmd work s =
      .next ((u.modPort p (fun q => q.answerUrgent tag code r)).finish s (some (.request code p))) := by
  obtain ⟨hp, hq, ha⟩ := h
  unfold urgentRequest
  rw [if_pos hp]
  dsimp only
  rw [arriveUrgent_ready _ _ _ _ hq ha]
  simp only [if_true, PerPort.set_get]
  rw [hw]

/-- A frame held in the urgent slot runs as one that arrives at the port with that slot empty (R186). -/
theorem urgentRequest_held (p : Port) (tag code : Nat) (cmd : Instr) (work : State → State × Option Reply) (s : State)
    (hp : s.powered = true) (h : (s.ports.get p).urgent = some cmd) (ha : (s.ports.get p).hasAnswer .urgent = false) :
    urgentRequest p tag code cmd work s =
      urgentRequest p tag code cmd work (s.modPort p (fun q => { q with urgent := none })) := by
  let u : State := s.modPort p (fun q => { q with urgent := none })
  have g : u.ports.get p = { s.ports.get p with urgent := none } := PerPort.get_set _ _ _
  have e : (u.ports.get p).arriveUrgent cmd tag code = ({ s.ports.get p with urgent := none }, true) := by
    rw [g]
    exact arriveUrgent_ready _ _ _ _ rfl ha
  have e1 : (s.ports.get p).arriveUrgent cmd tag code = ({ s.ports.get p with urgent := none }, true) := by
    simp [PortState.arriveUrgent, h, PortState.readyUrgent, ha]
  have e2 : ({ u with ports := u.ports.set p { s.ports.get p with urgent := none } } : State) =
      { s with ports := s.ports.set p { s.ports.get p with urgent := none } } := by
    simp [u, State.modPort]
  show _ = urgentRequest p tag code cmd work u
  unfold urgentRequest
  rw [if_pos hp, if_pos (show u.powered = true from hp)]
  dsimp only
  rw [e, e1]
  simp only [if_true]
  rw [e2, finish_before _ s u _ rfl]

/-- An event with the supply on runs and closes. -/
theorem event_powered (run : State → State) (s : State) (h : s.powered = true) :
    event run s = .next ((run s).finish s none) := by
  simp [event, h]

/-- With the supply off an event leaves the state as it is (R13). -/
theorem event_unpowered (run : State → State) (s : State) (h : s.powered = false) : event run s = .next s := by
  simp [event, h]

/-- A request answers, whatever its port holds. -/
theorem request_next (p : Port) (tag code : Nat) (cmd : Instr) (work : State → State × Option Reply) (s : State) :
    ∃ t, request p tag code cmd work s = .next t := ⟨_, rfl⟩

theorem urgentRequest_next (p : Port) (tag code : Nat) (cmd : Instr) (work : State → State × Option Reply) (s : State) :
    ∃ t, urgentRequest p tag code cmd work s = .next t := ⟨_, rfl⟩

/-- A request leaves a settled state settled, and so does every event. -/
theorem request_settled (p : Port) (tag code : Nat) (cmd : Instr) (work : State → State × Option Reply) (s t : State)
    (hs : s.Settled) (h : request p tag code cmd work s = .next t) : t.Settled := by
  unfold request at h
  injection h with h
  subst h
  split
  · dsimp only
    split
    · exact finish_settled _ _ _
    · exact finish_settled _ _ _
  · exact hs

theorem urgentRequest_settled (p : Port) (tag code : Nat) (cmd : Instr) (work : State → State × Option Reply)
    (s t : State) (hs : s.Settled) (h : urgentRequest p tag code cmd work s = .next t) : t.Settled := by
  unfold urgentRequest at h
  injection h with h
  subst h
  split
  · dsimp only
    split
    · exact finish_settled _ _ _
    · exact finish_settled _ _ _
  · exact hs

theorem event_settled (run : State → State) (s t : State) (hs : s.Settled) (h : event run s = .next t) : t.Settled := by
  unfold event at h
  injection h with h
  subst h
  split
  · exact finish_settled _ _ _
  · exact hs

end Sys2Proof.Machine
end

