-- ==== Sys2Proof/Laws/Tracking.lean ====
section
/-! SUPPORT. Tracking.lean: what the operations on records, tracks, demands, sections and cuts do, one lemma for each: the lookups
after an update, the notices given, the lists of a section, and what the Route Planner's work on one cut leaves alone. -/

namespace Sys2Proof.Machine

/-! ### Lookups after an update -/

/-- A lookup by key in a list in which the records of one key were changed, by a change that keeps the key. -/
theorem find_map_key {α κ : Type} [DecidableEq κ] (key : α → κ) (f : α → α) (hf : ∀ a, key (f a) = key a) (n m : κ)
    (l : List α) :
    (l.map (fun r => if key r == n then f r else r)).find? (fun r => key r == m) =
      (l.find? (fun r => key r == m)).map (fun r => if m = n then f r else r) := by
  induction l with
  | nil => rfl
  | cons a l ih =>
    have e : key (if key a == n then f a else a) = key a := by split <;> simp [hf]
    simp only [List.map_cons, List.find?_cons, e]
    by_cases h : key a = m
    · subst h
      simp
    · have hm : (key a == m) = false := by simp [h]
      rw [hm]
      exact ih

theorem sectionAt?_modSection (s : State) (n m : Nat) (f : SectionRec → SectionRec) (hf : ∀ r, (f r).point = r.point) :
    (s.modSection n f).sectionAt? m = (s.sectionAt? m).map (fun r => if m = n then f r else r) :=
  find_map_key SectionRec.point f hf n m s.sections

theorem cut?_modCut (s : State) (c k : CutId) (f : CutRec → CutRec) (hf : ∀ r, (f r).id = r.id) :
    (s.modCut c f).cut? k = (s.cut? k).map (fun r => if k = c then f r else r) :=
  find_map_key CutRec.id f hf c k s.cuts

theorem track?_modTrack (s : State) (n m : Nat) (f : TrackRec → TrackRec) (hf : ∀ r, (f r).num = r.num) :
    (s.modTrack n f).track? m = (s.track? m).map (fun r => if m = n then f r else r) :=
  find_map_key TrackRec.num f hf n m s.tracks

theorem point?_modPoint (s : State) (n m : Nat) (f : PointRec → PointRec) (hf : ∀ r, (f r).num = r.num) :
    (s.modPoint n f).point? m = (s.point? m).map (fun r => if m = n then f r else r) :=
  find_map_key PointRec.num f hf n m s.points

theorem sensor?_modSensor (s : State) (x y : Sensor) (f : SensorRec → SensorRec) (hf : ∀ r, (f r).sensor = r.sensor) :
    (s.modSensor x f).sensor? y = (s.sensor? y).map (fun r => if y = x then f r else r) :=
  find_map_key SensorRec.sensor f hf x y s.sensors

theorem cut?_modCut_self (s : State) (c : CutId) (r : CutRec) (f : CutRec → CutRec) (hf : ∀ r, (f r).id = r.id)
    (h : s.cut? c = some r) : (s.modCut c f).cut? c = some (f r) := by
  rw [cut?_modCut _ _ _ _ hf, h]
  simp

theorem cut?_of_cuts {s t : State} (h : t.cuts = s.cuts) (c : CutId) : t.cut? c = s.cut? c := by
  unfold State.cut?
  rw [h]

theorem id_of_cut? {s : State} {c : CutId} {r : CutRec} (h : s.cut? c = some r) : r.id = c := by
  simpa using List.find?_some h

/-! ### Notices given (R189) -/

theorem gave_give (s : State) (b : NoticeBody) : (s.give b).Gave b := by
  intro p
  simp [State.give, State.now]

theorem gave_trackingFault (s : State) (b : Block) (f : TrackingFault) : (s.trackingFault b f).Gave (.trackingFault f) :=
  gave_give _ _

/-- A notice given stays given while no port takes one. -/
theorem gave_of_hears {s t : State} {b : NoticeBody} (h : s.Gave b) (k : Hears s t) (hc : t.clock = s.clock) : t.Gave b := by
  intro p
  obtain ⟨l, hl⟩ := k p
  have := h p
  rw [hl]
  unfold State.now at *
  rw [hc]
  simp [this]

/-! ### Tracks (R149 to R151) -/

/-- A change of a track record leaves every block but the Track Table alone, and gives only notices. -/
theorem changeTrack_frame (s : State) (t : Nat) (cause : TrackCause) (always : Bool) (arrival : Option (CutId × Nat))
    (fillBefore : Option Nat) (f : TrackRec → TrackRec) :
    let u := s.changeTrack t cause always arrival fillBefore f
    u = { s with tracks := u.tracks, ports := u.ports, trackReportDue := u.trackReportDue } ∧ Hears s u := by
  unfold State.changeTrack
  dsimp only
  have hg : ∀ r' b, Hears s ((s.modTrack t r').give b) := fun r' b => (Hears.of_ports rfl).trans (hears_give _ _)
  split
  · exact ⟨rfl, Hears.refl _⟩
  · split <;> split <;> refine ⟨rfl, ?_⟩ <;>
      first | exact hg _ _ | exact (hg _ _).trans (Hears.of_ports rfl) | exact Hears.of_ports rfl

/-- A change of a track record changes that record alone. -/
theorem changeTrack_track? (s : State) (t : Nat) (cause : TrackCause) (always : Bool) (arrival : Option (CutId × Nat))
    (fillBefore : Option Nat) (f : TrackRec → TrackRec) (hf : ∀ r, (f r).num = r.num) (m : Nat) :
    (s.changeTrack t cause always arrival fillBefore f).track? m =
      if m = t then (s.track? t).map f else s.track? m := by
  unfold State.changeTrack
  cases h : s.track? t with
  | none =>
    dsimp only
    split
    · rename_i e
      rw [e, h]
      rfl
    · rfl
  | some r =>
    have hr : r.num = t := by simpa using List.find?_some h
    have e : (s.modTrack t (fun _ => f r)).track? m = if m = t then some (f r) else s.track? m := by
      have k := track?_modTrack s t m (fun x => if x.num = t then f r else x) (by intro x; split <;> simp_all)
      have e : s.modTrack t (fun x => if x.num = t then f r else x) = s.modTrack t (fun _ => f r) := by
        unfold State.modTrack
        congr 1
        apply List.map_congr_left
        intro x _
        by_cases hx : x.num = t <;> simp [hx]
      rw [e] at k
      rw [k]
      by_cases hm : m = t
      · subst hm
        simp [h, hr]
      · simp [hm]
    dsimp only
    split <;> split <;> exact e

/-- A cut's move from one track to another leaves every block but the Track Table alone. -/
theorem moveCommitment_frame (s : State) (a b : Nat) :
    s.moveCommitment a b = { s with
      tracks := (s.moveCommitment a b).tracks, ports := (s.moveCommitment a b).ports,
      trackReportDue := (s.moveCommitment a b).trackReportDue } := by
  unfold State.moveCommitment
  split
  · rfl
  · have h1 : s.commitFall a none = { s with
        tracks := (s.commitFall a none).tracks, ports := (s.commitFall a none).ports,
        trackReportDue := (s.commitFall a none).trackReportDue } := (changeTrack_frame s a _ _ _ _ _).1
    generalize s.commitFall a none = u at h1
    have h2 : u.commitRise b = { u with
        tracks := (u.commitRise b).tracks, ports := (u.commitRise b).ports,
        trackReportDue := (u.commitRise b).trackReportDue } := (changeTrack_frame u b _ _ _ _ _).1
    generalize u.commitRise b = w at h2
    cases s
    cases u
    cases w
    simp_all

/-! ### Demands (R102, R109) -/

theorem insertDemands_frame (s : State) (c : CutId) (steps : List Step) :
    s.insertDemands c steps = { s with demands := (s.insertDemands c steps).demands } := by
  unfold State.insertDemands
  induction steps generalizing s with
  | nil => rfl
  | cons a l ih => exact ih (s.modQueue a.point _)

/-- The demands inserted depend on the queues alone. -/
theorem insertDemands_demands {s t : State} (c : CutId) (steps : List Step) (h : t.demands = s.demands) :
    (t.insertDemands c steps).demands = (s.insertDemands c steps).demands := by
  unfold State.insertDemands
  induction steps generalizing s t with
  | nil => exact h
  | cons a l ih => exact ih (by simp [State.modQueue, h])

/-- After a removal no queue that was asked for holds a demand of the cut. -/
theorem removeDemands_none (s : State) (c : CutId) :
    ∀ q ∈ (s.removeDemands c (fun _ => true)).demands, ∀ d ∈ q.entries, d.cut ≠ c := by
  intro q hq d hd
  simp only [State.removeDemands, if_true, List.mem_map] at hq
  obtain ⟨x, _, rfl⟩ := hq
  simp only [List.mem_filter, bne_iff_ne] at hd
  exact hd.2

theorem predict_frame (s : State) (c : CutId) : s.predict c = { s with demands := (s.predict c).demands } := by
  unfold State.predict
  split <;> rfl

/-- The demands of all queues without their predictions. -/
def State.demandSteps (s : State) : List (Nat × List (CutId × Pos)) :=
  s.demands.map (fun q => (q.point, q.entries.map (fun d => (d.cut, d.pos))))

/-- A prediction moves no demand. -/
theorem predict_demandSteps (s : State) (c : CutId) : (s.predict c).demandSteps = s.demandSteps := by
  unfold State.predict State.demandSteps
  split
  · rfl
  · simp only [List.map_map]
    apply List.map_congr_left
    intro q _
    simp only [Function.comp, List.map_map]
    congr 1
    apply List.map_congr_left
    intro d _
    simp only [Function.comp]
    split <;> rfl

/-- The predictions of a cut's demands are made anew; every other demand keeps its own (R109). -/
theorem predict_queueOf (s : State) (c : CutId) (r : CutRec) (n : Nat) (h : s.cut? c = some r) :
    (s.predict c).queueOf n =
      (s.queueOf n).map (fun d => if d.cut = c then { d with toe := predictedToe s.layout r n } else d) := by
  unfold State.predict
  rw [h]
  unfold State.queueOf
  dsimp only
  rw [List.find?_map]
  change (match Option.map _ (s.demands.find? (fun q => q.point == n)) with
    | some (q : DemandQueue) => q.entries
    | none => []) = _
  cases hq : s.demands.find? (fun q => q.point == n) with
  | none => rfl
  | some q =>
    have e := List.find?_some hq
    simp only [beq_iff_eq] at e
    subst e
    rfl

/-- The distance to a point behind the steps `pre` (R3, R109). -/
theorem toeDistance_split (l : Layout) (pre : List Step) (q : Step) (rest : List Step) (h : ∀ st ∈ pre, st.point ≠ q.point) :
    l.toeDistance q.point (pre ++ q :: rest) = (pre.map l.lengthOf).sum + l.toeOf q.point := by
  induction pre with
  | nil => simp [Layout.toeDistance]
  | cons x xs ih =>
    simp only [List.cons_append, Layout.toeDistance, List.map_cons, List.sum_cons]
    rw [if_neg (h x List.mem_cons_self), ih (fun st hs => h st (List.mem_cons_of_mem _ hs)), Nat.add_assoc]

/-- The steps from the one a sensor leads into. -/
theorem stepsFrom_split (l : Layout) (x : Sensor) (above : List Step) (j : Step) (rest : List Step)
    (h : ∀ st ∈ above, l.entrySensor st.point ≠ x) (hj : l.entrySensor j.point = x) :
    stepsFrom l x (above ++ j :: rest) = j :: rest := by
  unfold stepsFrom
  induction above with
  | nil => simp [hj]
  | cons y ys ih =>
    have hy := h y List.mem_cons_self
    simpa [hy] using ih (fun st hs => h st (List.mem_cons_of_mem _ hs))

/-- The prediction at a step behind the one the head stands in (R109). -/
theorem predictedToe_ahead (l : Layout) (r : CutRec) (h : HeadReport) (above : List Step) (j : Step) (mid : List Step)
    (q : Step) (below : List Step) (hs : r.stalled = false) (hh : r.head = some h)
    (hp : r.path = above ++ j :: mid ++ q :: below) (ha : ∀ st ∈ above, l.entrySensor st.point ≠ h.sensor)
    (hj : l.entrySensor j.point = h.sensor) (hq : ∀ st ∈ j :: mid, st.point ≠ q.point) :
    predictedToe l r q.point = (predictionSpeed l r h).map (fun v => h.time + BitVec.ofNat 32
      ((l.lengthOf j + (mid.map l.lengthOf).sum + l.toeOf q.point) * 10 * l.earlyFactor / v)) := by
  have e : stepsFrom l h.sensor r.path = (j :: mid) ++ q :: below := by
    rw [hp, List.append_assoc]
    exact stepsFrom_split l _ above j (mid ++ q :: below) ha hj
  unfold predictedToe
  simp only [hs, hh, e]
  cases predictionSpeed l r h with
  | none => rfl
  | some v =>
    rw [toeDistance_split l (j :: mid) q below hq]
    simp

theorem reportPool_frame (s stripped before : State) :
    s.reportPool stripped before = { s with freedDue := (s.reportPool stripped before).freedDue } := by
  unfold State.reportPool
  split <;> rfl

/-! ### Sections (R43, R44, R58, R60) -/

theorem endStall_sections (s : State) (n : Nat) (o : Occupant) (cause : MovingCause) :
    (s.endStall n o cause).sections = s.sections := by
  unfold State.endStall
  dsimp only
  repeat' split
  all_goals rfl

/-- A pass gives its section the new list and leaves every other section. -/
theorem passList_occ (s : State) (n m : Nat) (a : Occupant) (l : List OccEntry) :
    ((s.passList n a l).sectionAt? m).map SectionRec.occ = (s.sectionAt? m).map (fun r => if m = n then l else r.occ) ∧
    (m ≠ n → (s.passList n a l).sectionAt? m = s.sectionAt? m) := by
  unfold State.passList
  cases h : s.sectionAt? n with
  | none =>
    by_cases e : m = n
    · subst e
      simp [h]
    · simp [e]
  | some r =>
    have key : ∀ d, (s.modSection n (fun r => { r with occ := l, dwell := d })).sectionAt? m =
        (s.sectionAt? m).map (fun r => if m = n then { r with occ := l, dwell := d } else r) :=
      fun d => sectionAt?_modSection _ _ _ _ (by simp)
    have ended : ∀ d o k, ((s.modSection n (fun r => { r with occ := l, dwell := d })).endStall n o k).sectionAt? m =
        (s.sectionAt? m).map (fun r => if m = n then { r with occ := l, dwell := d } else r) := by
      intro d o k
      rw [← key d]
      unfold State.sectionAt?
      rw [endStall_sections]
    have fin : ∀ t : State, (∃ d, t.sectionAt? m =
          (s.sectionAt? m).map (fun r => if m = n then { r with occ := l, dwell := d } else r)) →
        (t.sectionAt? m).map SectionRec.occ = (s.sectionAt? m).map (fun r => if m = n then l else r.occ) ∧
        (m ≠ n → t.sectionAt? m = s.sectionAt? m) := by
      rintro t ⟨d, hd⟩
      rw [hd]
      refine ⟨?_, fun e => by simp [e]⟩
      cases s.sectionAt? m <;> simp
      split <;> rfl
    dsimp only
    split
    · split
      · exact fin _ ⟨_, ended _ _ _⟩
      · exact fin _ ⟨_, key _⟩
    · exact fin _ ⟨_, key _⟩

/-- What leaving EXPIRED does: CUT MOVING, the stalled mark where no other section is EXPIRED with the cut at its head, STALL with
the last EXPIRED section (R60). -/
theorem endStall_spec (s : State) (n : Nat) (o : Occupant) (cause : MovingCause) :
    let t := s.endStall n o cause
    let stands := ∃ x ∈ s.sections, (∃ w, x.dwell = .expired w) ∧ headOcc x.occ = some o
    t.Gave (.cutMoving n o cause) ∧ t.sections = s.sections ∧
    (∀ c, o = .cut c → ¬ stands → t.cuts = s.cuts.map (fun x => if x.id = c then { x with stalled := false } else x)) ∧
    (o = .unidentified ∨ stands → t.cuts = s.cuts) ∧
    ((∀ x ∈ s.sections, ∀ w, x.dwell ≠ .expired w) →
      (⟨.block .zoneTracker, .clear .stall⟩ : HoldClaim) ∈ t.holdInbox) := by
  have exp : ∀ d : Dwell, d.isExpired = true ↔ ∃ w, d = .expired w := by
    intro d; cases d <;> simp [Dwell.isExpired]
  have g := gave_give s (.cutMoving n o cause)
  refine ⟨?_, endStall_sections s n o cause, ?_, ?_, ?_⟩
  · intro p
    have := g p
    cases o <;> simp only [State.endStall] <;> (repeat' split) <;> exact this
  · rintro c rfl h
    have : s.sections.any (fun r => r.dwell.isExpired && headOcc r.occ == some (.cut c)) = false := by
      simp only [List.any_eq_false, Bool.and_eq_true, beq_iff_eq, exp]
      exact fun x hx hh => h ⟨x, hx, hh⟩
    have e : (s.give (.cutMoving n (.cut c) cause)).sections = s.sections := rfl
    simp only [State.endStall, e, this, Bool.false_eq_true, if_false]
    split <;> simp [State.modCut, State.give, State.clear, State.claim]
  · intro h
    cases o with
    | unidentified => simp only [State.endStall]; split <;> rfl
    | cut c =>
      have h := h.resolve_left (by simp)
      obtain ⟨x, hx, hw, ho⟩ := h
      have : s.sections.any (fun r => r.dwell.isExpired && headOcc r.occ == some (.cut c)) = true := by
        simp only [List.any_eq_true, Bool.and_eq_true, beq_iff_eq, exp]
        exact ⟨x, hx, hw, ho⟩
      have e : (s.give (.cutMoving n (.cut c) cause)).sections = s.sections := rfl
      simp only [State.endStall, e, this, if_true]
      split <;> rfl
  · intro h
    have : s.sections.any (fun r => r.dwell.isExpired) = false := by
      simp only [List.any_eq_false, exp]
      exact fun x hx ⟨w, hw⟩ => h x hx w hw
    have key : ∀ u : State, u.sections = s.sections →
        (⟨.block .zoneTracker, .clear .stall⟩ : HoldClaim) ∈
          (if u.anyExpired then u else u.clear .zoneTracker .stall).holdInbox := by
      intro u hu
      have : u.anyExpired = false := by simp only [State.anyExpired, hu, this]
      simp [this, State.clear, State.claim]
    cases o with
    | unidentified => exact key _ rfl
    | cut c =>
      refine key _ ?_
      dsimp only
      split <;> rfl

/-- What a pass makes of a section's list, dwell timer and stall (R58, R60). -/
theorem passList_times (s : State) (n : Nat) (a : Occupant) (l : List OccEntry) (r : SectionRec) (h : s.sectionAt? n = some r) :
    s.passTimes n r a (s.passList n a l) ∧ ((s.passList n a l).sectionAt? n).map SectionRec.occ = some l := by
  let d := State.dwellAfter s.now r a l
  let u := s.modSection n (fun r => { r with occ := l, dwell := d })
  have hu : u.sectionAt? n = some { r with occ := l, dwell := d } := by
    rw [sectionAt?_modSection _ _ _ _ (by simp), h]
    simp
  have hd : d = if l = [] then .stopped
      else if r.dwell = .stopped ∨ headOcc r.occ = some a ∨ headOcc l ≠ headOcc r.occ then .running s.now
      else r.dwell := by
    simp only [d, State.dwellAfter]
    cases l with
    | nil => simp
    | cons e es =>
      simp only [List.isEmpty_cons, Bool.false_eq_true, if_false, reduceCtorEq]
      cases r.dwell <;> simp
  have same : (∃ w, d = .expired w) → d = r.dwell := by
    rintro ⟨w, hw⟩
    rw [hd] at hw ⊢
    split at hw
    · cases hw
    · split at hw
      · cases hw
      · rename_i h1 h2
        simp [h1, h2]
  have exp : ∀ d : Dwell, d.isExpired = true ↔ ∃ w, d = .expired w := by
    intro d; cases d <;> simp [Dwell.isExpired]
  have e : s.passList n a l = match headOcc r.occ with
      | some o => if r.dwell.isExpired && !d.isExpired then u.endStall n o (if o = a then .pass else .headChanged) else u
      | none => u := by
    simp only [State.passList, h]
    rfl
  by_cases he : ∃ o, headOcc r.occ = some o ∧ (∃ y, r.dwell = .expired y) ∧ d ≠ r.dwell
  · obtain ⟨o, ho, ⟨y, hy⟩, hn⟩ := he
    have e2 : s.passList n a l = u.endStall n o (if o = a then .pass else .headChanged) := by
      have h1 : r.dwell.isExpired = true := (exp _).2 ⟨y, hy⟩
      have h2 : d.isExpired = false := by
        cases hh : d.isExpired
        · rfl
        · exact absurd (same ((exp _).1 hh)) hn
      rw [e, ho]
      simp [h1, h2]
    obtain ⟨g, hs, c1, c2, c3⟩ := endStall_spec u n o (if o = a then .pass else .headChanged)
    rw [← e2] at g hs c1 c2 c3
    have hz : (s.passList n a l).sectionAt? n = some { r with occ := l, dwell := d } := by
      unfold State.sectionAt? at hu ⊢
      rw [hs]
      exact hu
    refine ⟨⟨_, hz, hd, ?_, ?_⟩, by rw [hz]; rfl⟩
    · rintro (hh | hh)
      · exact absurd hy (hh y)
      · exact absurd hh hn
    · rintro y' o' - - ho'
      obtain rfl : o = o' := by rw [ho] at ho'; exact Option.some.inj ho'
      rw [hs]
      exact ⟨g, c1, c2, c3⟩
  · have e2 : s.passList n a l = u := by
      rw [e]
      cases ho : headOcc r.occ with
      | none => rfl
      | some o =>
        dsimp only
        split
        · rename_i hx
          simp only [Bool.and_eq_true, Bool.not_eq_true'] at hx
          refine absurd ⟨o, ho, (exp _).1 hx.1, ?_⟩ he
          intro hh
          rw [hh, hx.1] at hx
          cases hx.2
        · rfl
    rw [e2]
    refine ⟨⟨_, hu, hd, fun _ => rfl, ?_⟩, by rw [hu]; rfl⟩
    intro y o hy hn ho
    exact absurd ⟨o, ho, ⟨y, hy⟩, hn⟩ he

/-- What Point Control hears of a section a pass has emptied does (R55, R125, R145). -/
theorem afterEmpty_spec (n : Nat) (s : State) : s.afterEmpty n false = s ∧ s.afterEmpty n true = { s with
    evalDue := s.evalDue ++ [⟨n, false⟩],
    points := if s.sectionEmpty n then s.points.map (fun q => if q.num = n then q.timed else q) else s.points } := by
  refine ⟨rfl, ?_⟩
  simp only [State.afterEmpty, State.sectionReport, State.takeTiming, if_true]
  split
  · simp only [State.evaluateLater, State.modPoint, beq_iff_eq, PointRec.timed] <;> rfl
  · rfl

/-- An axle that a section has room for joins by the list `placeAxle` makes. -/
theorem joinSection_placed (s : State) (n : Nat) (a : Occupant) (place : Place) (x : Sensor) (r : SectionRec)
    (l : List OccEntry) (h : s.sectionAt? n = some r) (hp : placeAxle a place r.occ = (l, none)) :
    s.joinSection n a place x = (s.passList n a l, []) := by
  simp only [State.joinSection, h, hp]

/-- A new entry by cut order stands before the first entry of a later cut. -/
theorem insertBeforeLater_split (c : CutId) (b l : List OccEntry) (e : OccEntry) (hb : ∀ y ∈ b, y.occ.isLater c = false)
    (he : e.occ.isLater c = true) : insertBeforeLater c (b ++ e :: l) = b ++ ⟨.cut c, 1⟩ :: e :: l := by
  induction b with
  | nil => simp [insertBeforeLater, he]
  | cons x xs ih =>
    have hx := hb x (by simp)
    simp only [List.cons_append, insertBeforeLater]
    rw [if_neg (by simp [hx]), ih (fun y hy => hb y (by simp [hy]))]

theorem growTail_append (b : List OccEntry) (e : OccEntry) : growTail (b ++ [e]) = b ++ [e.more] := by
  induction b with
  | nil => rfl
  | cons f fs ih =>
    cases fs with
    | nil =>
      simp only [List.cons_append, List.nil_append, growTail]
    | cons g gs =>
      simp only [List.cons_append, growTail] at ih ⊢
      rw [ih]

theorem takeTail_append (b : List OccEntry) (e : OccEntry) :
    takeTail (b ++ [e]) = if e.count ≤ 1 then b else b ++ [{ e with count := e.count - 1 }] := by
  induction b with
  | nil => simp [takeTail]
  | cons f fs ih =>
    cases fs with
    | nil =>
      simp only [List.cons_append, List.nil_append, takeTail]
      split <;> rfl
    | cons g gs =>
      simp only [List.cons_append, takeTail] at ih ⊢
      rw [ih]
      split <;> rfl

/-! ### The Route Planner's work on one cut (R104 to R114, R134 to R137) -/

/-- What the work of a head pass leaves: sections, crest, list, layout, every other cut, and what was said before; the cut
itself keeps its record and its head report. -/
structure OnCut (c : CutId) (s t : State) : Prop where
  sections : t.sections = s.sections
  crest : t.crest = s.crest
  planned : t.planned = s.planned
  clock : t.clock = s.clock
  active : t.active = s.active
  others : ∀ k, k ≠ c → t.cut? k = s.cut? k
  head : (t.cut? c).map CutRec.head = (s.cut? c).map CutRec.head
  hears : Hears s t
  claims : ∃ l, t.holdInbox = s.holdInbox ++ l

namespace OnCut

theorem refl (c : CutId) (s : State) : OnCut c s s :=
  ⟨rfl, rfl, rfl, rfl, rfl, fun _ _ => rfl, rfl, Hears.refl s, [], by simp⟩

theorem trans {c : CutId} {s t u : State} (h : OnCut c s t) (k : OnCut c t u) : OnCut c s u :=
  ⟨k.sections.trans h.sections, k.crest.trans h.crest, k.planned.trans h.planned, k.clock.trans h.clock,
   k.active.trans h.active, fun x hx => (k.others x hx).trans (h.others x hx), k.head.trans h.head, h.hears.trans k.hears,
   by
    obtain ⟨a, ha⟩ := h.claims
    obtain ⟨b, hb⟩ := k.claims
    exact ⟨a ++ b, by rw [hb, ha]; simp⟩⟩

/-- Work that changes points, tracks, demands and what is due alone. -/
theorem of_cuts {c : CutId} {s t : State} (h1 : t.sections = s.sections) (h2 : t.crest = s.crest)
    (h3 : t.planned = s.planned) (h4 : t.clock = s.clock) (h5 : t.active = s.active) (h6 : t.cuts = s.cuts)
    (h7 : Hears s t) (h8 : ∃ l, t.holdInbox = s.holdInbox ++ l) : OnCut c s t :=
  ⟨h1, h2, h3, h4, h5, fun k _ => cut?_of_cuts h6 k, by rw [cut?_of_cuts h6], h7, h8⟩

theorem give (c : CutId) (s : State) (b : NoticeBody) : OnCut c s (s.give b) :=
  of_cuts rfl rfl rfl rfl rfl rfl (hears_give _ _) ⟨[], by simp [State.give]⟩

theorem raise (c : CutId) (s : State) (b : Block) (r : HoldReason) : OnCut c s (s.raise b r) :=
  of_cuts rfl rfl rfl rfl rfl rfl (Hears.of_ports rfl) ⟨[_], rfl⟩

theorem modPoint (c : CutId) (s : State) (n : Nat) (f : PointRec → PointRec) : OnCut c s (s.modPoint n f) :=
  of_cuts rfl rfl rfl rfl rfl rfl (Hears.of_ports rfl) ⟨[], by simp⟩

theorem removeDemands (c : CutId) (s : State) (d : CutId) (w : Nat → Bool) : OnCut c s (s.removeDemands d w) :=
  of_cuts rfl rfl rfl rfl rfl rfl (Hears.of_ports rfl) ⟨[], by simp [State.removeDemands]⟩

theorem modQueue (c : CutId) (s : State) (n : Nat) (f : List Demand → List Demand) : OnCut c s (s.modQueue n f) :=
  of_cuts rfl rfl rfl rfl rfl rfl (Hears.of_ports rfl) ⟨[], by simp⟩

theorem insertDemands (c : CutId) (s : State) (d : CutId) (steps : List Step) : OnCut c s (s.insertDemands d steps) := by
  rw [insertDemands_frame]
  exact of_cuts rfl rfl rfl rfl rfl rfl (Hears.of_ports rfl) ⟨[], by simp⟩

theorem predict (c : CutId) (s : State) (d : CutId) : OnCut c s (s.predict d) := by
  rw [predict_frame]
  exact of_cuts rfl rfl rfl rfl rfl rfl (Hears.of_ports rfl) ⟨[], by simp⟩

theorem reportPool (c : CutId) (s a b : State) : OnCut c s (s.reportPool a b) := by
  rw [reportPool_frame]
  exact of_cuts rfl rfl rfl rfl rfl rfl (Hears.of_ports rfl) ⟨[], by simp⟩

theorem changeTrack (c : CutId) (s : State) (t : Nat) (cause : TrackCause) (always : Bool) (arrival : Option (CutId × Nat))
    (fillBefore : Option Nat) (f : TrackRec → TrackRec) : OnCut c s (s.changeTrack t cause always arrival fillBefore f) := by
  obtain ⟨e, h⟩ := changeTrack_frame s t cause always arrival fillBefore f
  generalize s.changeTrack t cause always arrival fillBefore f = u at e h
  refine of_cuts ?_ ?_ ?_ ?_ ?_ ?_ h ⟨[], ?_⟩ <;> rw [e]
  simp

theorem moveCommitment (c : CutId) (s : State) (a b : Nat) : OnCut c s (s.moveCommitment a b) := by
  unfold State.moveCommitment
  split
  · exact refl c s
  · exact (changeTrack c _ _ _ _ _ _ _).trans (changeTrack c _ _ _ _ _ _ _)

theorem modCut (c : CutId) (s : State) (f : CutRec → CutRec) (hf : ∀ r, (f r).id = r.id) (hh : ∀ r, (f r).head = r.head) :
    OnCut c s (s.modCut c f) := by
  refine ⟨rfl, rfl, rfl, rfl, rfl, ?_, ?_, Hears.of_ports rfl, [], by simp⟩
  · intro k hk
    rw [cut?_modCut _ _ _ _ hf]
    simp [hk]
  · rw [cut?_modCut _ _ _ _ hf]
    cases s.cut? c <;> simp [hh]

theorem markRunIn (c : CutId) (s : State) (r : PointRec) (d : CutId) : OnCut c s (s.markRunIn r d) := by
  unfold State.markRunIn
  split
  · exact refl c s
  · exact ((modPoint c _ _ _).trans (raise c _ _ _)).trans (give c _ _)

theorem toFault (c : CutId) (s : State) (n : Nat) (cause : FaultCause) (ended : Option ThrowEnd) (axles : Option ExitItem) :
    OnCut c s (s.toFault n cause ended axles) :=
  ((modPoint c _ _ _).trans (give c _ _)).trans (raise c _ _ _)

theorem divergenceReport (c : CutId) (s : State) (d : CutId) (n : Nat) (o : Pos) : OnCut c s (s.divergenceReport d n o) := by
  unfold State.divergenceReport
  repeat' split
  all_goals first | exact refl c s | exact toFault c _ _ _ _ _ | exact markRunIn c _ _ _

theorem entryReport (c : CutId) (s : State) (d : CutId) (n : Nat) (y : Option Pos) (speed : Option Nat) (time : YardTime) :
    OnCut c s (s.entryReport d n y speed time).1 := by
  unfold State.entryReport
  split
  · exact refl c s
  · split
    · split <;> exact refl c s
    · exact refl c s
    · dsimp only
      repeat' split
      all_goals first | exact refl c s | exact markRunIn c _ _ _

end OnCut

/-- The diversion rule looks at points, layout and tracks, and at the cut's planned track and state. -/
theorem followLie_congr (s t : State) (hp : t.points = s.points) (ha : t.active = s.active) (fuel : Nat) (st : Step) :
    t.followLie fuel st = s.followLie fuel st := by
  have hl : t.layout = s.layout := by
    unfold State.layout
    rw [ha]
  have ho : ∀ q, t.lieOf q = s.lieOf q := by
    intro q
    unfold State.lieOf State.point?
    rw [hp]
  induction fuel generalizing st with
  | zero => rfl
  | succ n ih =>
    simp only [State.followLie, hl]
    split <;> first | rfl | rw [ih, ho]

theorem diversionTrack_congr (s t : State) (r r' : CutRec) (st : Step) (hp : t.points = s.points) (ha : t.active = s.active)
    (ht : t.tracks = s.tracks) (h1 : r'.planned = r.planned) (h2 : r'.state = r.state) :
    t.diversionTrack r' st = s.diversionTrack r st := by
  have hl : t.layout = s.layout := by
    unfold State.layout
    rw [ha]
  have hk : ∀ n, t.track? n = s.track? n := by
    intro n
    unfold State.track?
    rw [ht]
  have ho : t.trackOpen = s.trackOpen := by
    funext n
    unfold State.trackOpen
    rw [hk]
  unfold State.diversionTrack State.openDiversion State.alternateBelow State.lieTrack
  simp only [hl, ho, hk, h1, h2, followLie_congr s t hp ha]

/-- What a diversion does to its cut (R113, R114). -/
theorem applyDiversion_cut (s : State) (r r0 : CutRec) (st : Step) (cause : DivertCause) (d : Nat)
    (h : s.cut? r.id = some r0) :
    let t := s.applyDiversion r st cause d
    OnCut r.id s t ∧ t.points = s.points ∧ ∃ x, t.cut? r.id = some x ∧ x.dest = d ∧ x.status = .diverted ∧
      x.frontier = r0.frontier ∧ x.state = r0.state ∧ x.planned = r0.planned ∧
      (∃ l, x.path = r.path.takeWhile (fun y => y.point != st.point) ++ st :: l) ∧
      t.Gave (.cutDiverted r.id cause (some st) r.dest d .diverted x.path.length x.pathEnd) := by
  unfold State.applyDiversion
  dsimp only
  generalize hs1 : s.removeDemands r.id _ = s1
  have r1 : OnCut r.id s s1 := hs1 ▸ OnCut.removeDemands _ _ _ _
  have p1 : s1.points = s.points := by subst hs1; rfl
  have c1 : s1.cuts = s.cuts := by subst hs1; rfl
  generalize hs2 : s1.modQueue st.point _ = s2
  have r2 : OnCut r.id s s2 := r1.trans (hs2 ▸ OnCut.modQueue _ _ _ _)
  have p2 : s2.points = s.points := by subst hs2; exact p1
  have c2 : s2.cuts = s.cuts := by subst hs2; exact c1
  generalize (if s2.poolFree < (s.layout.pathBelow st.point d).length then PathEnd.opened else PathEnd.track) = pe
  generalize hpath : r.path.takeWhile (fun x => x.point != st.point) ++
    st :: (s.layout.pathBelow st.point d).take s2.poolFree = path
  have ri := OnCut.insertDemands r.id s2 r.id ((s.layout.pathBelow st.point d).take s2.poolFree)
  have fi := insertDemands_frame s2 r.id ((s.layout.pathBelow st.point d).take s2.poolFree)
  generalize s2.insertDemands r.id ((s.layout.pathBelow st.point d).take s2.poolFree) = s3 at ri fi ⊢
  have p3 : s3.points = s.points := by rw [fi]; exact p2
  have c3 : s3.cut? r.id = some r0 := by rw [← h]; apply cut?_of_cuts; rw [fi]; exact c2
  have r4 := OnCut.modCut r.id s3 (fun x =>
    { x with path := path, pathEnd := pe, dest := d, status := .diverted, speed := State.keepSpeed path x.speed })
    (by simp) (by simp)
  have c4 := cut?_modCut_self s3 r.id r0 (fun x =>
    { x with path := path, pathEnd := pe, dest := d, status := .diverted, speed := State.keepSpeed path x.speed }) (by simp) c3
  generalize hs4 : s3.modCut r.id _ = s4 at r4 c4 ⊢
  have p4 : s4.points = s.points := by subst hs4; exact p3
  have r5 := OnCut.moveCommitment r.id s4 r.dest d
  have f5 : (s4.moveCommitment r.dest d).points = s4.points ∧ (s4.moveCommitment r.dest d).cuts = s4.cuts := by
    rw [moveCommitment_frame]
    exact ⟨rfl, rfl⟩
  generalize s4.moveCommitment r.dest d = s5 at r5 f5 ⊢
  suffices key : ∀ (intrusion : Bool) (t : State), t = ((((if pe = .opened then
        (if intrusion = true then s5.raise .routePlanner .intrusion else s5).raise .routePlanner .capacity
        else (if intrusion = true then s5.raise .routePlanner .intrusion else s5)).predict r.id).give
          (.cutDiverted r.id cause (some st) r.dest d .diverted path.length pe)).reportPool s1 s) →
      OnCut r.id s t ∧ t.points = s.points ∧ ∃ x, t.cut? r.id = some x ∧ x.dest = d ∧ x.status = .diverted ∧
      x.frontier = r0.frontier ∧ x.state = r0.state ∧ x.planned = r0.planned ∧
      (∃ l, x.path = r.path.takeWhile (fun y => y.point != st.point) ++ st :: l) ∧
      t.Gave (.cutDiverted r.id cause (some st) r.dest d .diverted x.path.length x.pathEnd) from key _ _ rfl
  rintro intrusion t rfl
  generalize hs6 : (if intrusion = true then s5.raise .routePlanner .intrusion else s5) = s6
  have f6 : OnCut r.id s5 s6 ∧ s6.points = s5.points ∧ s6.cuts = s5.cuts := by
    subst hs6
    split
    · exact ⟨OnCut.raise _ _ _ _, rfl, rfl⟩
    · exact ⟨OnCut.refl _ _, rfl, rfl⟩
  generalize hs7 : (if pe = .opened then s6.raise .routePlanner .capacity else s6) = s7
  have f7 : OnCut r.id s6 s7 ∧ s7.points = s6.points ∧ s7.cuts = s6.cuts := by
    subst hs7
    split
    · exact ⟨OnCut.raise _ _ _ _, rfl, rfl⟩
    · exact ⟨OnCut.refl _ _, rfl, rfl⟩
  have r8 := OnCut.predict r.id s7 r.id
  have f8 := predict_frame s7 r.id
  generalize s7.predict r.id = s8 at r8 f8 ⊢
  have g := gave_give s8 (.cutDiverted r.id cause (some st) r.dest d .diverted path.length pe)
  have r9 := OnCut.give r.id s8 (.cutDiverted r.id cause (some st) r.dest d .diverted path.length pe)
  have r10 := OnCut.reportPool r.id (s8.give (.cutDiverted r.id cause (some st) r.dest d .diverted path.length pe)) s1 s
  have f10 := reportPool_frame (s8.give (.cutDiverted r.id cause (some st) r.dest d .diverted path.length pe)) s1 s
  refine ⟨(((((((r2.trans ri).trans r4).trans r5).trans f6.1).trans f7.1).trans r8).trans r9).trans r10, ?_, _,
    Eq.trans (cut?_of_cuts ?_ r.id) c4, rfl, rfl, rfl, rfl, rfl, ⟨_, hpath.symm⟩, gave_of_hears g r10.hears r10.clock⟩
  · rw [f10]
    show s8.points = _
    rw [f8]
    exact ((f7.2.1.trans f6.2.1).trans f5.1).trans p4
  · rw [f10]
    show s8.cuts = _
    rw [f8]
    exact (f7.2.2.trans f6.2.2).trans f5.2

/-- A diversion follows the diversion rule, or leaves the cut as it is where the rule gives no track (R111, R112). -/
theorem divert_cut (s : State) (c : CutId) (r : CutRec) (st : Step) (cause : DivertCause) (h : s.cut? c = some r) :
    let t := s.divert c st cause
    OnCut c s t ∧ t.points = s.points ∧
    ((s.diversionTrack r st = none ∧ t = s) ∨
      ∃ d x, s.diversionTrack r st = some d ∧ t.cut? c = some x ∧ x.dest = d ∧ x.status = .diverted ∧
        x.frontier = r.frontier ∧ x.state = r.state ∧ x.planned = r.planned ∧
        (∃ l, x.path = r.path.takeWhile (fun y => y.point != st.point) ++ st :: l) ∧
        t.Gave (.cutDiverted c cause (some st) r.dest d .diverted x.path.length x.pathEnd)) := by
  have hid := id_of_cut? h
  subst hid
  dsimp only
  cases hd : s.diversionTrack r st with
  | none =>
    have e : s.divert r.id st cause = s := by simp [State.divert, h, hd]
    rw [e]
    exact ⟨OnCut.refl _ _, rfl, Or.inl ⟨rfl, rfl⟩⟩
  | some d =>
    have e : s.divert r.id st cause = s.applyDiversion r st cause d := by simp [State.divert, h, hd]
    rw [e]
    obtain ⟨a, b, x, hx⟩ := applyDiversion_cut s r r st cause d h
    exact ⟨a, b, Or.inr ⟨d, x, rfl, hx⟩⟩

/-! ### Filtered edges -/

/-- A filtered edge that is due is taken, dated a filter time after its raw edge, when the other head has none waiting (R25, R27). -/
theorem takeFiltered_due (x : Sensor) (h : Head) (r : SensorRec) (s : State) (e : RawChange) (es : List RawChange)
    (hr : s.sensor? x = some r) (ho : (r.head h).owed = e :: es) (hn : (r.head (otherHead h)).owed = [])
    (hd : e.edge + r.filter ≤ s.clock) : State.takeFiltered x h s = s.takeEdge r h e (e.edge + r.filter) := by
  unfold State.takeFiltered SensorRec.nextEdge SensorRec.edgeDue
  rw [hr]
  cases h <;> simp only [SensorRec.head, otherHead] at * <;> simp [ho, hn, qualified, hd]

end Sys2Proof.Machine
end

