-- ==== Sys2Proof/Laws/Holds.lean ====
section
/-! SUPPORT. Holds.lean: which reasons an update of the hold set leaves, what the claims of an event make of the set at its end, and
what a point's way into FAULT does (R139, R172, R173). -/

namespace Sys2Proof.Machine

/-! ### One update (R172) -/

/-- A lookup by key in a list built in the order of the keys. -/
theorem find_filterMap_key {κ α : Type} [DecidableEq κ] (p : κ → Bool) (g : κ → α) (l : List κ) (k : κ) :
    (l.filterMap (fun x => if p x then some (x, g x) else none)).find? (fun e => e.1 == k) =
      if k ∈ l ∧ p k then some (k, g k) else none := by
  induction l with
  | nil => rfl
  | cons a as ih =>
    simp only [List.filterMap_cons]
    by_cases e : a = k
    · subst e
      by_cases hp : p a = true
      · simp [hp]
      · simp only [Bool.not_eq_true] at hp
        simp [hp] at ih ⊢
        exact ih
    · have ek : ¬ k = a := fun h => e h.symm
      by_cases hp : p a = true
      · simp [hp, e, ek] at ih ⊢
        exact ih
      · simp [hp, ek] at ih ⊢
        exact ih

/-- A reason present after an update is one that its raises and clears leave (R172). -/
theorem has_update (h : HoldSet) (now : YardTime) (ops : List HoldOp) (r : HoldReason) :
    (h.update now ops).has r = (ops.foldl applyOp (h.present.map (fun e => e.1), h.urgent)).1.contains r := by
  unfold HoldSet.has HoldSet.timeOf HoldSet.update
  dsimp only
  rw [find_filterMap_key (fun r => (ops.foldl applyOp (h.present.map (fun e => e.1), h.urgent)).1.contains r)
    (fun r => (h.timeOf r).getD now)]
  have hr : r ∈ allReasons := by cases r <;> decide
  by_cases c : (ops.foldl applyOp (h.present.map (fun e => e.1), h.urgent)).1.contains r = true
  · rw [if_pos ⟨hr, c⟩, c]
    rfl
  · rw [if_neg (fun e => c e.2)]
    simpa using c

/-- With a reason present the relay is released (R173). -/
theorem relayJudgement_of_has (m : Mode) (h : HoldSet) (r : HoldReason) (p : h.has r = true) : relayJudgement m h = false := by
  unfold relayJudgement HoldSet.isEmpty
  have : h.present ≠ [] := by
    intro e
    simp [HoldSet.has, HoldSet.timeOf, e] at p
  cases hp : h.present with
  | nil => exact absurd hp this
  | cons a l => simp

/-! ### The claims of an event (R172, R173) -/

theorem holdUpdate_holds (s : State) (src : HoldSource) (ops : List HoldOp) :
    (s.holdUpdate src ops).holds = if ops.isEmpty then s.holds else s.holds.update s.now ops := by
  unfold State.holdUpdate
  dsimp only
  generalize (if ops.isEmpty then s.holds else s.holds.update s.now ops) = h
  split <;> rfl

theorem eraseDups_one {α : Type} [BEq α] [LawfulBEq α] (a : α) (l : List α) (h : ∀ x ∈ l, x = a) : (a :: l).eraseDups = [a] := by
  rw [List.eraseDups_cons]
  have : l.filter (fun b => !b == a) = [] := by
    rw [List.filter_eq_nil_iff]
    intro x hx
    simp [h x hx]
  rw [this]
  rfl

/-- The set after an event whose claims are taken as one update: those of a request, or of one block (R172; log entry 6). -/
theorem settleHolds_holds (s : State) (src : Option HoldSource)
    (one : src = none → ∃ b, ∀ c ∈ s.holdInbox, c.source = b) :
    (s.settleHolds src).holds =
      if s.holdInbox.isEmpty then s.holds else s.holds.update s.now (s.holdInbox.map HoldClaim.op) := by
  have last : ∀ u : State, (u.holdUpdate (.block .layoutStore) []).holds = u.holds := by
    intro u
    rw [holdUpdate_holds]
    rfl
  unfold State.settleHolds
  dsimp only
  rw [last]
  cases src with
  | some r =>
    dsimp only
    split
    · rfl
    · rename_i h
      rw [holdUpdate_holds]
      simp only [List.isEmpty_map, h]
      rfl
  | none =>
    obtain ⟨b, hb⟩ := one rfl
    dsimp only
    cases hi : s.holdInbox with
    | nil => rfl
    | cons c cs =>
      rw [hi] at hb
      have hc := hb c List.mem_cons_self
      have e : claimSources (c :: cs) = [c.source] := by
        unfold claimSources
        rw [List.map_cons]
        apply eraseDups_one
        intro x hx
        obtain ⟨d, hd, rfl⟩ := List.mem_map.mp hx
        rw [hb d (List.mem_cons_of_mem _ hd), hc]
      have f : (c :: cs).filter (fun d => d.source == c.source) = c :: cs := by
        rw [List.filter_eq_self]
        intro d hd
        simp [hb d hd, hc]
      rw [e]
      simp only [List.foldl_cons, List.foldl_nil, f]
      rw [holdUpdate_holds]
      rfl

/-- The set when an event has closed, under the same condition, the end of DRAINING making no claim. -/
theorem finish_holds (s b : State) (src : Option HoldSource)
    (one : src = none → ∃ k, ∀ c ∈ s.holdInbox, c.source = k) :
    (s.finish b src).holds =
      if s.holdInbox.isEmpty then s.holds else s.holds.update s.now (s.holdInbox.map HoldClaim.op) := by
  unfold State.finish
  rw [startLines_holds, settleHolds_holds]
  · simp [State.now]
  · simpa using one

theorem finish_relay (s b : State) (src : Option HoldSource) :
    (s.finish b src).relay = relayJudgement (s.finish b src).mode (s.finish b src).holds := (finish_settled s b src).2.1

/-- What closing an event may change: the mode, the hold set with its relay, the ports and the evaluations due. -/
theorem finish_frame (s b : State) (src : Option HoldSource) :
    s.finish b src = { s with
      mode := (s.finish b src).mode, holds := (s.finish b src).holds, relay := (s.finish b src).relay, holdInbox := [],
      ports := (s.finish b src).ports, evalDue := (s.finish b src).evalDue } := by
  have e : ∀ u : State, u = ⟨u.pending, u.powered, u.clock, u.freeCount, u.headPins, u.detPins, u.mode, u.active, u.load, u.store,
      u.sensors, u.sections, u.crest, u.planned, u.floor, u.cuts, u.demands, u.points, u.freeze, u.tracks, u.custody, u.holds,
      u.relay, u.holdInbox, u.ports, u.evalDue, u.diversionDue, u.trackReportDue, u.stagedLeftDue, u.freedDue⟩ := fun _ => rfl
  refine (e (s.finish b src)).trans ?_
  simp only [finish_pending, finish_powered, finish_clock, finish_freeCount, finish_headPins, finish_detPins, finish_active,
    finish_load, finish_store, finish_sensors, finish_sections, finish_crest, finish_planned, finish_floor, finish_cuts,
    finish_demands, finish_points, finish_freeze, finish_tracks, finish_custody, finish_diversionDue, finish_trackReportDue,
    finish_stagedLeftDue, finish_freedDue, finish_holdInbox]

/-- Outside DRAINING, and while a record moves, closing an event keeps the mode (R20). -/
theorem finish_mode_kept (s b : State) (src : Option HoldSource) (h : s.mode = .draining → s.hasMoving = true) :
    (s.finish b src).mode = s.mode := by
  rw [finish_mode, if_neg (fun c => c.2 (h c.1))]

/-! ### A point goes to FAULT (R132, R133, R136 to R139) -/

/-- The point is in FAULT with its drives off, every other point and record stays, POINT FAULT is claimed, and a POINT STATE notice
with the record as it stands is given. -/
theorem toFault_spec (s : State) (n : Nat) (cause : FaultCause) (ended : Option ThrowEnd) (axles : Option ExitItem)
    (r : PointRec) (h : s.point? n = some r) :
    let t := s.toFault n cause ended axles
    let x : PointRec := { r with state := .fault cause, driveN := false, driveR := false }
    t.point? n = some x ∧ (∀ m, m ≠ n → t.point? m = s.point? m) ∧
    t.holdInbox = s.holdInbox ++ [⟨.block .pointControl, .raise .pointFault⟩] ∧
    t = { s with points := t.points, holdInbox := t.holdInbox, ports := t.ports } ∧
    t.Gave (.pointState (some n) (.fault ended axles) (some x.view)) := by
  dsimp only
  have at' : ∀ m, (s.modPoint n (fun r => { r.drivesOff with state := .fault cause })).point? m =
      (s.point? m).map (fun r => if m = n then { r.drivesOff with state := .fault cause } else r) :=
    fun m => point?_modPoint _ _ _ _ (fun _ => rfl)
  have own := at' n
  rw [h] at own
  simp only [Option.map_some, if_true] at own
  refine ⟨own, fun m hm => (at' m).trans ?_, rfl, rfl, ?_⟩
  · cases s.point? m <;> simp [hm]
  · have g := gave_give (s.modPoint n (fun r => { r.drivesOff with state := .fault cause }))
      (.pointState (some n) (.fault ended axles)
        (((s.modPoint n (fun r => { r.drivesOff with state := .fault cause })).point? n).map PointRec.view))
    rw [own] at g
    unfold State.toFault State.pointNotice
    rw [own]
    exact g

end Sys2Proof.Machine
end

