-- ==== Sys2Proof/Laws/Layouts.lean ====
section
/-! SUPPORT. Layouts.lean: what placing an item, judging a list of items and placing a grant do. -/

namespace Sys2Proof.Machine

theorem mem_insertItem {α : Type} (key : α → Nat) (a j : α) (l : List α) :
    j ∈ insertItem key a l ↔ j = a ∨ j ∈ l := by
  induction l with
  | nil => simp [insertItem]
  | cons x xs ih =>
    simp only [insertItem]
    split
    · simp
    · simp only [List.mem_cons, ih]
      constructor
      · rintro (h | h | h) <;> simp [h]
      · rintro (h | h | h) <;> simp [h]

/-- An item put into a list is in it, with every item of another key and none of its own (R9). -/
theorem mem_putItem {α : Type} (key : α → Nat) (a j : α) (l : List α) :
    j ∈ putItem key a l ↔ j = a ∨ (key j ≠ key a ∧ j ∈ l) := by
  unfold putItem
  rw [mem_insertItem]
  simp [and_comm]

/-- Putting an item keeps a list in ascending key order, one item for each key (R9). -/
theorem putItem_ascends {α : Type} (key : α → Nat) (a : α) (l : List α) (h : (l.map key).Pairwise (· < ·)) :
    ((putItem key a l).map key).Pairwise (· < ·) := by
  have insert : ∀ m : List α, (m.map key).Pairwise (· < ·) → (∀ x ∈ m, key x ≠ key a) →
      ((insertItem key a m).map key).Pairwise (· < ·) := by
    intro m
    induction m with
    | nil => simp [insertItem]
    | cons x xs ih =>
      intro hm hne
      simp only [List.map_cons, List.pairwise_cons, List.forall_mem_map] at hm
      have hx := hne x List.mem_cons_self
      simp only [insertItem]
      split
      · rename_i hlt
        simp only [List.map_cons, List.pairwise_cons, List.mem_cons]
        refine ⟨?_, List.forall_mem_map.mpr hm.1, hm.2⟩
        rintro k (rfl | hk)
        · exact hlt
        · obtain ⟨y, hy, rfl⟩ := List.mem_map.mp hk
          exact Nat.lt_trans hlt (hm.1 y hy)
      · rename_i hge
        simp only [List.map_cons, List.pairwise_cons, List.forall_mem_map]
        refine ⟨fun y hy => ?_, ih hm.2 (fun z hz => hne z (List.mem_cons_of_mem _ hz))⟩
        rcases (mem_insertItem key a y xs).mp hy with rfl | hy
        · omega
        · exact hm.1 y hy
  refine insert _ ?_ (fun x hx => by simpa using (List.mem_filter.mp hx).2)
  exact h.sublist (List.filter_sublist.map key)

/-- Of a list of items, a check names the first that fails it (R11, R12). -/
theorem firstBad_eq_some {α : Type} (ok : α → Bool) (num : α → Nat) (c : Nat) (k : ItemKind) (l : List α)
    (n : Nat) (m : ItemKind) (x : Nat) :
    Layout.firstBad ok num c k l = some (n, m, x) ↔
      n = c ∧ m = k ∧ ∃ a i b, l = a ++ i :: b ∧ (∀ j ∈ a, ok j = true) ∧ ok i = false ∧ x = num i := by
  unfold Layout.firstBad
  simp only [Option.map_eq_some_iff, List.find?_eq_some_iff_append, Prod.mk.injEq, Bool.not_eq_true']
  constructor
  · rintro ⟨i, ⟨hi, a, b, hl, ha⟩, rfl, rfl, rfl⟩
    exact ⟨rfl, rfl, a, i, b, hl, fun j hj => by simpa using ha j hj, hi, rfl⟩
  · rintro ⟨rfl, rfl, a, i, b, hl, ha, hi, rfl⟩
    exact ⟨i, ⟨hi, a, b, hl, fun j hj => by simp [ha j hj]⟩, rfl, rfl, rfl⟩

theorem firstBad_eq_none {α : Type} (ok : α → Bool) (num : α → Nat) (c : Nat) (k : ItemKind) (l : List α) :
    Layout.firstBad ok num c k l = none ↔ ∀ i ∈ l, ok i = true := by
  simp [Layout.firstBad]

/-- A grant goes into the first free slot (R160). -/
theorem placeLowest_split (g : Grant) (a b : List (Option Grant)) (ha : ∀ x ∈ a, x ≠ none) :
    placeLowest g (a ++ none :: b) = a ++ some g :: b := by
  induction a with
  | nil => rfl
  | cons x xs ih =>
    cases x with
    | none => exact absurd rfl (ha none (by simp))
    | some y =>
      simp only [List.cons_append, placeLowest]
      rw [ih (fun z hz => ha z (by simp [hz]))]

/-- A table whose grants are for different tracks has at most one for each (R160). -/
theorem one_grant_each (l : List (Option Grant)) (h : (l.filterMap (fun g => g.map Grant.track)).Nodup) (n : Nat) :
    (l.filter (fun g => match g with
      | some g => g.track == n
      | none => false)).length ≤ 1 := by
  induction l with
  | nil => simp
  | cons x xs ih =>
    cases x with
    | none => simpa using ih (by simpa using h)
    | some g =>
      simp only [List.filterMap_cons, Option.map_some, List.nodup_cons] at h
      by_cases hg : g.track = n
      · have e : xs.filter (fun g => match g with
            | some g => g.track == n
            | none => false) = [] := by
          rw [List.filter_eq_nil_iff]
          intro y hy
          cases y with
          | none => simp
          | some k =>
            intro hk
            refine h.1 (List.mem_filterMap.mpr ⟨some k, hy, ?_⟩)
            simp only [Option.map_some, Option.some.injEq]
            rw [hg]
            simpa using hk
        simp [hg, e]
      · simpa [hg] using ih h.2

end Sys2Proof.Machine
end

