-- ==== Sys2Proof/Laws/Quiet.lean ====
section
/-! SUPPORT. Quiet.lean: what the blocks' work on passes, routes, staging and points leaves alone: the queue, the supply, the
clock, the pins, mode, layout, load, store, sensors, floor, freeze flag, custody, hold set, relay, and every port but the
notices given to it. `blank` erases the rest, so that one equation for each operation says it. -/

namespace Sys2Proof.Machine

namespace State

/-- The state with everything the blocks' work may change erased. -/
def blank (s : State) : State :=
  { s with
    sections := [], crest := Crest.idle, planned := [], cuts := [], demands := [], points := [], tracks := [],
    holdInbox := [], evalDue := [], diversionDue := [], trackReportDue := [], stagedLeftDue := false, freedDue := false,
    ports := s.ports.map (fun q => { q with given := [] }) }

/-! ### Record updates and primitive updates -/

/-- A record update of what `blank` erases. -/
theorem blank_mk (s : State)  : (State.mk s.pending s.powered s.clock s.freeCount s.headPins s.detPins s.mode
    s.active s.load s.store s.sensors x0 x1 x2 s.floor x3 x4 x5 s.freeze x6 s.custody s.holds s.relay x7
    s.ports x8 x9 x10 x11 x12).blank = s.blank := rfl
theorem blank_modPoint (s : State) (n : Nat) (f : PointRec → PointRec) : (s.modPoint n f).blank = s.blank := rfl
theorem blank_modSection (s : State) (n : Nat) (f : SectionRec → SectionRec) : (s.modSection n f).blank = s.blank
    := rfl
theorem blank_modTrack (s : State) (n : Nat) (f : TrackRec → TrackRec) : (s.modTrack n f).blank = s.blank := rfl
theorem blank_modCut (s : State) (c : CutId) (f : CutRec → CutRec) : (s.modCut c f).blank = s.blank := rfl
theorem blank_modQueue (s : State) (n : Nat) (f : List Demand → List Demand) : (s.modQueue n f).blank = s.blank := rfl
theorem blank_give (s : State) (b : NoticeBody) : (s.give b).blank = s.blank := rfl
theorem blank_claim (s : State) (b : Block) (op : HoldOp) : (s.claim b op).blank = s.blank := rfl
theorem blank_evaluateLater (s : State) (n : Nat) (a : Bool) : (s.evaluateLater n a).blank = s.blank := rfl
theorem blank_askDiversion (s : State) (c : CutId) (n : Nat) (k : RequestCause) (o : Pos)
    : (s.askDiversion c n k o).blank = s.blank := rfl
theorem blank_reportTrack (s : State) (t : Nat) : (s.reportTrack t).blank = s.blank := rfl
theorem blank_stagedLeft (s : State) : (s.stagedLeft ).blank = s.blank := rfl
theorem blank_freed (s : State) : (s.freed ).blank = s.blank := rfl

theorem blank_raise (s : State) (b : Block) (r : HoldReason) : (s.raise b r).blank = s.blank := rfl
theorem blank_clear (s : State) (b : Block) (r : HoldReason) : (s.clear b r).blank = s.blank := rfl
theorem blank_trackingFault (s : State) (b : Block) (f : TrackingFault) : (s.trackingFault b f).blank = s.blank := rfl
theorem blank_removeDemands (s : State) (c : CutId) (w : Nat → Bool) : (s.removeDemands c w).blank = s.blank := rfl

/-- A fold of quiet steps is quiet. -/
theorem blank_foldl {α : Type} (f : State → α → State) (h : ∀ s a, (f s a).blank = s.blank) (l : List α) (s : State) :
    (l.foldl f s).blank = s.blank := by
  induction l generalizing s with
  | nil => rfl
  | cons a as ih => exact (ih _).trans (h s a)

theorem blank_insertDemands (s : State) (c : CutId) (steps : List Step) : (s.insertDemands c steps).blank = s.blank :=
  blank_foldl (fun (s : State) (st : Step) => s.modQueue st.point (insertDemand ⟨c, st.pos, none⟩))
    (fun _ _ => rfl) _ _


/-! ### TrackOps -/

theorem blank_changeTrack (s : State) (t : Nat) (cause : TrackCause) (always : Bool) (arrival
    : Option (CutId × Nat)) (fillBefore : Option Nat) (f : TrackRec → TrackRec) :
    (s.changeTrack t cause always arrival fillBefore f).blank = s.blank := by
  unfold changeTrack
  try dsimp only
  repeat' (first | done | (solve | simp only [blank_modTrack, blank_give, blank_reportTrack]) | split)

theorem blank_fillUp (s : State) (t : Nat) :
    (s.fillUp t).blank = s.blank := by
  unfold fillUp
  try dsimp only
  repeat' (first | done | (solve | simp only [blank_changeTrack]) | split)

theorem blank_fillDown (s : State) (t : Nat) :
    (s.fillDown t).blank = s.blank := by
  unfold fillDown
  try dsimp only
  repeat' (first | done | (solve | simp only [blank_changeTrack]) | split)

theorem blank_commitRise (s : State) (t : Nat) :
    (s.commitRise t).blank = s.blank := by
  unfold commitRise
  try dsimp only
  repeat' (first | done | (solve | simp only [blank_changeTrack]) | split)

theorem blank_commitFall (s : State) (t : Nat) (arrival : Option (CutId × Nat)) :
    (s.commitFall t arrival).blank = s.blank := by
  unfold commitFall
  try dsimp only
  repeat' (first | done | (solve | simp only [blank_changeTrack]) | split)

theorem blank_moveCommitment (s : State) (old new : Nat) :
    (s.moveCommitment old new).blank = s.blank := by
  unfold moveCommitment
  try dsimp only
  repeat' (first | done | (solve | simp only [blank_commitRise, blank_commitFall]) | split)


/-! ### PointOps -/

theorem blank_pointNotice (s : State) (n : Nat) (e : PointEvent) :
    (s.pointNotice n e).blank = s.blank := by
  unfold pointNotice
  try dsimp only
  repeat' (first | done | (solve | simp only [blank_give]) | split)

theorem blank_clearPointFault (s : State) :
    (s.clearPointFault).blank = s.blank := by
  unfold clearPointFault
  try dsimp only
  repeat' (first | done | (solve | simp only [blank_clear]) | split)

theorem blank_toFault (s : State) (n : Nat) (cause : FaultCause) (ended : Option ThrowEnd) (axles : Option ExitItem) :
    (s.toFault n cause ended axles).blank = s.blank := by
  unfold toFault
  try dsimp only
  repeat' (first | done | (solve | simp only [blank_modPoint, blank_raise, blank_pointNotice]) | split)

theorem blank_startThrow (s : State) (n : Nat) (t : Pos) :
    (s.startThrow n t).blank = s.blank := by
  unfold startThrow
  try dsimp only
  repeat' (first | done | (solve | simp only [blank_modPoint, blank_pointNotice, blank_clearPointFault]) | split)

theorem blank_takeTiming (s : State) (n : Nat) :
    (s.takeTiming n).blank = s.blank := by
  unfold takeTiming
  try dsimp only
  repeat' (first | done | (solve | simp only [blank_modPoint]) | split)

theorem blank_evaluateDemand (s : State) (r : PointRec) (p : Pos) :
    (s.evaluateDemand r p).blank = s.blank := by
  unfold evaluateDemand
  try dsimp only
  repeat' (first | done | (solve | simp only [blank_askDiversion, blank_startThrow]) | split)

theorem blank_divertFromBlock (s : State) (n : Nat) (b : Pos) :
    (s.divertFromBlock n b).blank = s.blank := by
  unfold divertFromBlock
  try dsimp only
  repeat' (first | done | (solve | simp only [blank_askDiversion]) | split)

theorem blank_evaluateLocked (s : State) (r : PointRec) (p : Pos) :
    (s.evaluateLocked r p).blank = s.blank := by
  unfold evaluateLocked
  try dsimp only
  repeat' (first | done | (solve | simp only [blank_startThrow, blank_evaluateDemand, blank_divertFromBlock]) | split)

theorem blank_evaluateFault (s : State) (r : PointRec) (afterThrow : Bool) :
    (s.evaluateFault r afterThrow).blank = s.blank := by
  unfold evaluateFault
  try dsimp only
  repeat' (first | done | (solve | simp only [blank_modPoint, blank_pointNotice, blank_clearPointFault,
      blank_startThrow, blank_takeTiming, blank_evaluateDemand, blank_divertFromBlock]) | split)

theorem blank_evaluate (s : State) (n : Nat) (afterThrow : Bool) :
    (s.evaluate n afterThrow).blank = s.blank := by
  unfold evaluate
  try dsimp only
  repeat' (first | done | (solve | simp only [blank_evaluateLocked, blank_evaluateFault]) | split)

theorem blank_markRunIn (s : State) (r : PointRec) (c : CutId) :
    (s.markRunIn r c).blank = s.blank := by
  unfold markRunIn
  try dsimp only
  repeat' (first | done | (solve | simp only [blank_modPoint, blank_raise, blank_pointNotice]) | split)

theorem blank_entryReport (s : State) (c : CutId) (n : Nat) (y : Option Pos) (speed : Option Nat) (time : YardTime) :
    (s.entryReport c n y speed time).1.blank = s.blank := by
  unfold entryReport
  try dsimp only
  repeat' (first | done | (solve | simp only [blank_markRunIn]) | split)

theorem blank_divergenceReport (s : State) (c : CutId) (n : Nat) (o : Pos) :
    (s.divergenceReport c n o).blank = s.blank := by
  unfold divergenceReport
  try dsimp only
  repeat' (first | done | (solve | simp only [blank_toFault, blank_markRunIn]) | split)

theorem blank_endThrowFault (s : State) (r : PointRec) (cause : FaultCause) (ended : ThrowEnd) :
    (s.endThrowFault r cause ended).blank = s.blank := by
  unfold endThrowFault
  try dsimp only
  repeat' (first | done | (solve | simp only [blank_evaluateLater, blank_toFault]) | split)

theorem blank_endThrowLock (s : State) (r : PointRec) (t : Pos) (start time : YardTime) :
    (s.endThrowLock r t start time).blank = s.blank := by
  unfold endThrowLock
  try dsimp only
  repeat' (first | done | (solve | simp only [blank_modPoint, blank_evaluateLater, blank_pointNotice,
      blank_takeTiming, blank_endThrowFault]) | split)

theorem blank_detectionEvent (s : State) (n : Nat) (time : YardTime) :
    (s.detectionEvent n time).blank = s.blank := by
  unfold detectionEvent
  try dsimp only
  repeat' (first | done | (solve | simp only [blank_modPoint, blank_toFault, blank_endThrowFault,
      blank_endThrowLock]) | split)

theorem blank_sectionReport (s : State) (n : Nat) :
    (s.sectionReport n).blank = s.blank := by
  unfold sectionReport
  try dsimp only
  repeat' (first | done | (solve | simp only [blank_evaluateLater, blank_takeTiming]) | split)


/-! ### RouteOps -/

theorem blank_predict (s : State) (c : CutId) :
    (s.predict c).blank = s.blank := by
  unfold predict
  try dsimp only
  repeat' (first | done | (solve | simp only [blank_mk]) | split)

theorem blank_forgetExits (s : State) (c : CutId) :
    (s.forgetExits c).blank = s.blank := by
  unfold forgetExits
  try dsimp only
  repeat' (first | done | (solve | simp only [blank_mk]) | split)

theorem blank_freeRecord (s : State) (r : CutRec) (arrival : Option (CutId × Nat)) :
    (s.freeRecord r arrival).blank = s.blank := by
  unfold freeRecord
  try dsimp only
  repeat' (first | done | (solve | simp only [blank_mk, blank_freed, blank_removeDemands, blank_commitFall,
      blank_forgetExits]) | split)

theorem blank_retireCheck (s : State) (c : CutId) :
    (s.retireCheck c).blank = s.blank := by
  unfold retireCheck
  try dsimp only
  repeat' (first | done | (solve | simp only [blank_give, blank_freeRecord]) | split)

theorem blank_reportPool (s stripped before : State) :
    (s.reportPool stripped before).blank = s.blank := by
  unfold reportPool
  try dsimp only
  repeat' (first | done | (solve | simp only [blank_freed]) | split)

theorem blank_applyDiversion (s : State) (r : CutRec) (st : Step) (cause : DivertCause) (dest : Nat) :
    (s.applyDiversion r st cause dest).blank = s.blank := by
  unfold applyDiversion
  try dsimp only
  repeat' (first | done | (solve | simp only [blank_modCut, blank_modQueue, blank_give, blank_raise,
      blank_removeDemands, blank_insertDemands, blank_moveCommitment, blank_predict, blank_reportPool]) | split)

theorem blank_divert (s : State) (c : CutId) (st : Step) (cause : DivertCause) :
    (s.divert c st cause).blank = s.blank := by
  unfold divert
  try dsimp only
  repeat' (first | done | (solve | simp only [blank_applyDiversion]) | split)

theorem blank_headEntry (s : State) (r : CutRec) (st : Step) (i : Nat) (speed : Option Nat) (time : YardTime) :
    (s.headEntry r st i speed time).blank = s.blank := by
  unfold headEntry
  try dsimp only
  repeat' (first | done | (solve | simp only [blank_modCut, blank_freed, blank_removeDemands, blank_entryReport,
      blank_divert]) | split)

theorem blank_headArrival (s : State) (r : CutRec) :
    (s.headArrival r).blank = s.blank := by
  unfold headArrival
  try dsimp only
  repeat' (first | done | (solve | simp only [blank_modCut, blank_removeDemands, blank_reportPool]) | split)

theorem blank_strayArrival (s : State) (r : CutRec) (st : Step) (t : Nat) :
    (s.strayArrival r st t).blank = s.blank := by
  unfold strayArrival
  try dsimp only
  repeat' (first | done | (solve | simp only [blank_modCut, blank_give, blank_raise, blank_moveCommitment]) | split)

theorem blank_headZone (s : State) (c : CutId) (left : Option Step) (zone : Target) (speed : Option Nat) (time
    : YardTime) :
    (s.headZone c left zone speed time).blank = s.blank := by
  unfold headZone
  try dsimp only
  repeat' (first | done | (solve | simp only [blank_entryReport, blank_headEntry, blank_headArrival,
      blank_strayArrival]) | split)

theorem blank_headOutlet (s : State) (c : CutId) (left : Option Step) :
    (s.headOutlet c left).blank = s.blank := by
  unfold headOutlet
  try dsimp only
  repeat' (first | done | (solve | simp only [blank_modCut, blank_divergenceReport, blank_divert]) | split)

theorem blank_headPassWork (s : State) (c : CutId) (left : Option Step) (zone : Target) (speed : Option Nat) (time
    : YardTime) :
    (s.headPassWork c left zone speed time).blank = s.blank := by
  unfold headPassWork
  try dsimp only
  repeat' (first | done | (solve | simp only [blank_predict, blank_headZone, blank_headOutlet]) | split)

theorem blank_headPass (s : State) (c : CutId) (p : Pass) (left : Option Step) (zone : Target) :
    (s.headPass c p left zone).blank = s.blank := by
  unfold headPass
  try dsimp only
  repeat' (first | done | (solve | simp only [blank_modCut, blank_give, blank_headPassWork]) | split)


/-! ### RollOps -/

theorem blank_raiseRestricted (s : State) (r : CutRec) :
    (s.raiseRestricted r).blank = s.blank := by
  unfold raiseRestricted
  try dsimp only
  repeat' (first | done | (solve | simp only [blank_raise]) | split)

theorem blank_stagingReasons (s : State) (o : StagingOutcome) : (s.stagingReasons o).blank = s.blank := by
  cases o <;> rfl

theorem blank_stageEntry (s : State) (e : PlannedEntry) (dest : Nat) (status : RouteStatus) :
    (s.stageEntry e dest status).blank = s.blank := by
  unfold stageEntry
  try dsimp only
  repeat' (first | done | (solve | simp only [blank_mk, blank_give, blank_insertDemands, blank_commitRise,
      blank_raiseRestricted]) | split)

theorem blank_stagingAttempt (s : State) :
    (s.stagingAttempt).blank = s.blank := by
  unfold stagingAttempt
  try dsimp only
  repeat' (first | done | (solve | simp only [blank_stagingReasons, blank_stageEntry]) | split)

theorem blank_removeStaged (s : State) (r : CutRec) :
    (s.removeStaged r).blank = s.blank := by
  unfold removeStaged
  try dsimp only
  repeat' (first | done | (solve | simp only [blank_mk, blank_clear, blank_freeRecord]) | split)

theorem blank_unstage (s : State) (r : CutRec) :
    (s.unstage r).blank = s.blank := by
  unfold unstage
  try dsimp only
  repeat' (first | done | (solve | simp only [blank_mk, blank_give, blank_removeStaged]) | split)

theorem blank_replan (s : State) (r : CutRec) :
    (s.replan r).blank = s.blank := by
  unfold replan
  try dsimp only
  repeat' (first | done | (solve | simp only [blank_modCut, blank_give, blank_removeDemands, blank_insertDemands,
      blank_moveCommitment, blank_reportPool, blank_unstage]) | split)

theorem blank_recheck (s : State) :
    (s.recheck).blank = s.blank := by
  unfold recheck
  try dsimp only
  repeat' (first | done | (solve | simp only [blank_replan]) | split)

theorem blank_unstageIfStaged (s : State) :
    (s.unstageIfStaged).blank = s.blank := by
  unfold unstageIfStaged
  try dsimp only
  repeat' (first | done | (solve | simp only [blank_unstage]) | split)


/-! ### ZoneOps -/

theorem blank_unproveSection (s : State) (n : Nat) :
    (s.unproveSection n).blank = s.blank := by
  unfold unproveSection
  try dsimp only
  repeat' (first | done | (solve | simp only [blank_modSection, blank_raise]) | split)

theorem blank_endStall (s : State) (n : Nat) (o : Occupant) (cause : MovingCause) :
    (s.endStall n o cause).blank = s.blank := by
  unfold endStall
  try dsimp only
  repeat' (first | done | (solve | simp only [blank_modCut, blank_give, blank_clear]) | split)

theorem blank_passList (s : State) (n : Nat) (a : Occupant) (l : List OccEntry) :
    (s.passList n a l).blank = s.blank := by
  unfold passList
  try dsimp only
  repeat' (first | done | (solve | simp only [blank_modSection, blank_endStall]) | split)

theorem blank_leaveSection (s : State) (n : Nat) (p : Pass) :
    (s.leaveSection n p).1.blank = s.blank := by
  unfold leaveSection
  try dsimp only
  repeat' (first | done | (solve | simp only [blank_trackingFault, blank_unproveSection, blank_passList]) | split)

theorem blank_joinSection (s : State) (n : Nat) (a : Occupant) (place : Place) (x : Sensor) :
    (s.joinSection n a place x).1.blank = s.blank := by
  unfold joinSection
  try dsimp only
  repeat' (first | done | (solve | simp only [blank_trackingFault, blank_passList]) | split)

theorem blank_takeHeld (s : State) (reports : List HeldReport) :
    (s.takeHeld reports).blank = s.blank := by
  refine blank_foldl _ ?_ _ _
  intro s a
  cases a <;> simp only [blank_modCut, blank_retireCheck]

theorem blank_afterEmpty (s : State) (n : Nat) (emptied : Bool) :
    (s.afterEmpty n emptied).blank = s.blank := by
  unfold afterEmpty
  try dsimp only
  repeat' (first | done | (solve | simp only [blank_sectionReport]) | split)

theorem blank_forwardAtK (s : State) (a : Occupant) (first : Bool) (p : Pass) :
    (s.forwardAtK a first p).blank = s.blank := by
  unfold forwardAtK
  try dsimp only
  repeat' (first | done | (solve | simp only [blank_headPass, blank_joinSection, blank_takeHeld]) | split)

theorem blank_attributeAxle (s : State) (st : Step) (x : Sensor) (a : Occupant) :
    (s.attributeAxle st x a).1.blank = s.blank := by
  unfold attributeAxle
  try dsimp only
  repeat' (first | done | (solve | simp only [blank_modSection, blank_trackingFault]) | split)

theorem blank_reportHead (s : State) (a : Occupant) (t : Attribution) (p : Pass) (st : Step) (zone : Target) :
    (s.reportHead a t p st zone).blank = s.blank := by
  unfold reportHead
  try dsimp only
  repeat' (first | done | (solve | simp only [blank_headPass]) | split)

theorem blank_axleArrived (s : State) (c : CutId) :
    (s.axleArrived c).blank = s.blank := by
  unfold axleArrived
  try dsimp only
  repeat' (first | done | (solve | simp only [blank_modCut, blank_retireCheck]) | split)

theorem blank_forwardAtOutlet (s : State) (st : Step) (p : Pass) :
    (s.forwardAtOutlet st p).blank = s.blank := by
  unfold forwardAtOutlet
  try dsimp only
  repeat' (first | done | (solve | simp only [blank_modTrack, blank_fillUp, blank_leaveSection,
      blank_joinSection, blank_takeHeld, blank_afterEmpty, blank_attributeAxle, blank_reportHead,
      blank_axleArrived]) | split)

theorem blank_backwardToPoint (s : State) (st : Step) (q : Nat) (p : Pass) :
    (s.backwardToPoint st q p).blank = s.blank := by
  unfold backwardToPoint
  try dsimp only
  repeat' (first | done | (solve | simp only [blank_leaveSection, blank_joinSection, blank_takeHeld,
      blank_afterEmpty]) | split)

theorem blank_backwardFromTrack (s : State) (st : Step) (t : Nat) (p : Pass) :
    (s.backwardFromTrack st t p).blank = s.blank := by
  unfold backwardFromTrack
  try dsimp only
  repeat' (first | done | (solve | simp only [blank_modCut, blank_trackingFault, blank_fillDown,
      blank_retireCheck, blank_joinSection, blank_takeHeld]) | split)

theorem blank_backwardAtOutlet (s : State) (st : Step) (p : Pass) :
    (s.backwardAtOutlet st p).blank = s.blank := by
  unfold backwardAtOutlet
  try dsimp only
  repeat' (first | done | (solve | simp only [blank_backwardToPoint, blank_backwardFromTrack]) | split)

theorem blank_loseEntry (s : State) (e : OccEntry) :
    (s.loseEntry e).blank = s.blank := by
  unfold loseEntry
  try dsimp only
  repeat' (first | done | (solve | simp only [blank_modCut, blank_retireCheck]) | split)

theorem blank_loseEntries (l : List OccEntry) (s : State) : (l.foldl loseEntry s).blank = s.blank :=
  blank_foldl _ blank_loseEntry _ _

theorem blank_clearOne (s : State) (n : Nat) :
    (s.clearOne n).blank = s.blank := by
  unfold clearOne
  try dsimp only
  repeat' (first | done | (solve | simp only [blank_modSection, blank_sectionReport, blank_endStall,
      blank_loseEntries]) | split)


/-! ### CrestOps -/

theorem blank_crestSeen (s : State) (p : Pass) :
    (s.crestSeen p).blank = s.blank := by
  unfold crestSeen
  try dsimp only
  repeat' (first | done | (solve | simp only [blank_mk]) | split)

theorem blank_separate (s : State) (v : Option Nat) :
    (s.separate v).blank = s.blank := by
  unfold separate
  try dsimp only
  repeat' (first | done | (solve | simp only [blank_mk]) | split)

theorem blank_crestForming (s : State) (current : Occupant) (countdown : Nat) :
    (s.crestForming current countdown).blank = s.blank := by
  unfold crestForming
  try dsimp only
  repeat' (first | done | (solve | simp only [blank_mk]) | split)

theorem blank_crestToIdle (s : State) :
    (s.crestToIdle).blank = s.blank := by
  unfold crestToIdle
  try dsimp only
  repeat' (first | done | (solve | simp only [blank_mk]) | split)

theorem blank_countAxle (s : State) (c : CutId) :
    (s.countAxle c).blank = s.blank := by
  unfold countAxle
  try dsimp only
  repeat' (first | done | (solve | simp only [blank_modCut]) | split)

theorem blank_crestFault (s : State) (cause : AxleCause) (short : Option (CutId × Nat)) :
    (s.crestFault cause short).blank = s.blank := by
  unfold crestFault
  try dsimp only
  repeat' (first | done | (solve | simp only [blank_trackingFault]) | split)

theorem blank_release (s : State) (r : CutRec) (p : Pass) :
    (s.release r p).blank = s.blank := by
  unfold release
  try dsimp only
  repeat' (first | done | (solve | simp only [blank_mk, blank_modCut, blank_give, blank_stagedLeft, blank_raise,
      blank_forwardAtK, blank_crestForming]) | split)

theorem blank_beginRun (s : State) (p : Pass) :
    (s.beginRun p).blank = s.blank := by
  unfold beginRun
  try dsimp only
  repeat' (first | done | (solve | simp only [blank_mk, blank_forwardAtK, blank_separate, blank_crestFault]) | split)

theorem blank_crestIdle (s : State) (p : Pass) :
    (s.crestIdle p).blank = s.blank := by
  unfold crestIdle
  try dsimp only
  repeat' (first | done | (solve | simp only [blank_release, blank_beginRun]) | split)

theorem blank_countDown (s : State) (c : CutId) (p : Pass) :
    (s.countDown c p).blank = s.blank := by
  unfold countDown
  try dsimp only
  repeat' (first | done | (solve | simp only [blank_mk, blank_forwardAtK, blank_separate, blank_countAxle]) | split)

theorem blank_makeFragment (s : State) (r : CutRec) (gap : Nat) (p : Pass) :
    (s.makeFragment r gap p).blank = s.blank := by
  unfold makeFragment
  try dsimp only
  repeat' (first | done | (solve | simp only [blank_mk, blank_modCut, blank_give, blank_insertDemands,
      blank_commitRise, blank_retireCheck, blank_forwardAtK, blank_crestForming]) | split)

theorem blank_noFragment (s : State) (r : CutRec) (p : Pass) :
    (s.noFragment r p).blank = s.blank := by
  unfold noFragment
  try dsimp only
  repeat' (first | done | (solve | simp only [blank_mk, blank_modCut, blank_raise, blank_retireCheck,
      blank_forwardAtK, blank_crestForming, blank_crestFault]) | split)

theorem blank_crestForm (s : State) (r : CutRec) (p : Pass) :
    (s.crestForm r p).blank = s.blank := by
  unfold crestForm
  try dsimp only
  repeat' (first | done | (solve | simp only [blank_crestSeen, blank_countDown, blank_makeFragment,
      blank_noFragment]) | split)

theorem blank_mergeStaged (s : State) (c : CutRec) (t : CutRec) (p : Pass) :
    (s.mergeStaged c t p).blank = s.blank := by
  unfold mergeStaged
  try dsimp only
  repeat' (first | done | (solve | simp only [blank_modCut, blank_give, blank_stagedLeft, blank_raise,
      blank_freeRecord, blank_forwardAtK, blank_crestForming, blank_countAxle]) | split)

theorem blank_overlengthAxle (s : State) (c : CutRec) (p : Pass) :
    (s.overlengthAxle c p).blank = s.blank := by
  unfold overlengthAxle
  try dsimp only
  repeat' (first | done | (solve | simp only [blank_mk, blank_modCut, blank_give, blank_forwardAtK,
      blank_separate, blank_countAxle, blank_crestFault]) | split)

theorem blank_crestSeparating (s : State) (c : CutRec) (p : Pass) :
    (s.crestSeparating c p).blank = s.blank := by
  unfold crestSeparating
  try dsimp only
  repeat' (first | done | (solve | simp only [blank_mergeStaged, blank_overlengthAxle]) | split)

theorem blank_runForming (s : State) (p : Pass) :
    (s.runForming p).blank = s.blank := by
  unfold runForming
  try dsimp only
  repeat' (first | done | (solve | simp only [blank_mk, blank_forwardAtK, blank_crestSeen, blank_separate,
      blank_crestToIdle, blank_crestIdle]) | split)

theorem blank_crestForward (s : State) (p : Pass) :
    (s.crestForward p).blank = s.blank := by
  unfold crestForward
  try dsimp only
  repeat' (first | done | (solve | simp only [blank_forwardAtK, blank_crestSeen, blank_separate, blank_crestIdle,
      blank_crestForm, blank_crestSeparating, blank_runForming]) | split)

theorem blank_returnToStaged (s : State) (r : CutRec) :
    (s.returnToStaged r).blank = s.blank := by
  unfold returnToStaged
  try dsimp only
  repeat' (first | done | (solve | simp only [blank_mk, blank_modCut, blank_give, blank_clear, blank_stagedLeft,
      blank_insertDemands, blank_predict, blank_forgetExits, blank_raiseRestricted, blank_unstage, blank_recheck,
      blank_unstageIfStaged]) | split)

theorem blank_backCurrent (s : State) (r : CutRec) :
    (s.backCurrent r).blank = s.blank := by
  unfold backCurrent
  try dsimp only
  repeat' (first | done | (solve | simp only [blank_mk, blank_modCut, blank_returnToStaged]) | split)

theorem blank_crestBackward (s : State) (a : Occupant) (p : Pass) :
    (s.crestBackward a p).blank = s.blank := by
  unfold crestBackward
  try dsimp only
  repeat' (first | done | (solve | simp only [blank_mk, blank_modCut, blank_retireCheck, blank_crestSeen,
      blank_backCurrent]) | split)

theorem blank_backwardAtK (s : State) (p : Pass) :
    (s.backwardAtK p).blank = s.blank := by
  unfold backwardAtK
  try dsimp only
  repeat' (first | done | (solve | simp only [blank_leaveSection, blank_afterEmpty, blank_crestBackward]) | split)

theorem blank_takePass (s : State) (p : Pass) :
    (s.takePass p).blank = s.blank := by
  unfold takePass
  try dsimp only
  repeat' (first | done | (solve | simp only [blank_forwardAtOutlet, blank_backwardAtOutlet, blank_crestForward,
      blank_backwardAtK]) | split)

theorem blank_gapExpired (s : State) :
    (s.gapExpired).blank = s.blank := by
  unfold gapExpired
  try dsimp only
  repeat' (first | done | (solve | simp only [blank_mk, blank_modCut, blank_retireCheck, blank_crestToIdle]) | split)

end State

end Sys2Proof.Machine
end

