-- ==== Sys2Proof/Tests/Slice0.lean ====
section
/-! SUPPORT. Slice0.lean: the model's own tests: ill-formed commands, single steps on a small yard, and for every statement a state
and operands that meet its hypotheses. -/

set_option Elab.async false

namespace Sys2Proof.Tests

open Sys2Proof.Machine

/-! ### A small yard: P1 at the crest leads by N to P2 and by R to T3; P2 leads to T1 and T2 -/

def layout : Layout :=
  { points := [⟨1, .crest, .point 2, .track 3, 1000, 2000, 3000, none, none⟩,
               ⟨2, .point 1, .track 1, .track 2, 1200, 2500, 2500, some 300, some 400⟩],
    tracks := [⟨1, 20, some 2, 1, none, none⟩, ⟨2, 20, none, 1, some 1, some 1⟩, ⟨3, 2, none, 4, none, none⟩],
    sensors := [⟨1, 0, 100⟩], yard := none }

/-- The layout commissioned in STANDBY: P1 lies N, P2 lies R; nothing waits at the ports but the line. -/
def standby : State :=
  let s := ({ State.reset with detPins := [(1, .n), (2, .r)], clock := 1000000 } : State).install layout
  { s with store := ⟨layout, true⟩, ports := s.ports.map (fun q => { q with notices := [] }) }

def orders : List PlannedEntry := [⟨5, 3, 1, .normal, none, .planning⟩, ⟨6, 2, 2, .restricted, none, .planning⟩]

/-- Proven sections, tracks OPEN, ACTIVE with a list of two cuts. -/
def active : State :=
  { standby with
    mode := .active, relay := true, planned := orders, floor := 6,
    sections := standby.sections.map (fun r => { r with proven := true }),
    tracks := standby.tracks.map (fun r => { r with state := .opened }) }

/-- The record of cut 5 as staging makes it. -/
def cut5 : CutRec :=
  { id := ⟨5, 0⟩, state := .staged, stalled := false, cls := .normal, accepted := false, port := .planning, planned := 1,
    tag := none, dest := 1, status := .asPlanned, expected := 3, counted := 0, held := 0, arrived := 0, merged := [],
    path := [⟨1, .n⟩, ⟨2, .n⟩], pathEnd := .track, frontier := some 0, head := none, speed := none, released := none }

/-- Cut 5 STAGED, with its demands at P1 and P2. -/
def staged : State :=
  { active with
    planned := orders.tail, cuts := [cut5],
    demands := [⟨1, [⟨⟨5, 0⟩, .n, none⟩]⟩, ⟨2, [⟨⟨5, 0⟩, .n, none⟩]⟩] }

/-- The state after a command. -/
def after (i : Instr) (s : State) : State :=
  match exec i s with
  | .next t => t
  | .fault _ => s
  | .refused _ => s

def answeredBy (t : State) (p : Port) (tag code : Nat) (r : Reply) : Bool :=
  (t.ports.get p).line == some (.answer ⟨tag, code, r⟩) || (t.ports.get p).answers.any (fun a => a.answer == ⟨tag, code, r⟩)

def gave (t : State) (b : NoticeBody) : Bool := allPorts.all (fun p => (t.ports.get p).given.contains ⟨t.now, b⟩)

/-- The step of a command answers exactly the state given. -/
def gives (i : Instr) (s t : State) : Bool :=
  match exec i s with
  | .next u => u == t
  | .fault _ => false
  | .refused _ => false

/-! ### Ill-formed commands are refused -/

theorem test_illFormed_tags_and_words :
    Instr.wellFormed (.readList .crest 256 (.fits 1)) = false ∧
    Instr.wellFormed (.readList .crest 1 (.fits 65536)) = false ∧
    Instr.wellFormed (.readCut .crest 1 (.fits ⟨1, 256⟩)) = false ∧
    Instr.wellFormed (.readPoint .crest 1 (.fits 256)) = false ∧
    Instr.wellFormed (.readPort .crest 1 (.misfit 1025)) = false ∧
    Instr.wellFormed (.readPort .crest 255 (.misfit 1024)) = true := by decide

theorem test_illFormed_operands :
    Instr.wellFormed (.enterCut .planning 1 (.fits ⟨1, 65536, 1, 0, none⟩)) = false ∧
    Instr.wellFormed (.enterCut .planning 1 (.fits ⟨1, 2, 1, 0, some [31]⟩)) = false ∧
    Instr.wellFormed (.amendCut .planning 1 (.fits ⟨1, 256⟩)) = false ∧
    Instr.wellFormed (.blockPoint .crest 1 (.fits ⟨1, 256⟩)) = false ∧
    Instr.wellFormed (.setPointTiming .crest 1 (.fits ⟨1, 65536, 300⟩)) = false ∧
    Instr.wellFormed (.ackFault .crest 1 (.fits (.point 256))) = false ∧
    Instr.wellFormed (.ackFault .crest 1 (.fits (.sensor 256))) = false ∧
    Instr.wellFormed (.rerouteCut .crest 1 (.fits ⟨⟨65536, 0⟩, 1⟩)) = false ∧
    Instr.wellFormed (.speedReport .speed 1 (.fits ⟨⟨1, 0⟩, 1, 65536⟩)) = false ∧
    Instr.wellFormed (.setCapacity .bowl 1 (.fits ⟨256, 1⟩)) = false ∧
    Instr.wellFormed (.setAlternate .bowl 1 (.fits ⟨1, some 256⟩)) = false ∧
    Instr.wellFormed (.copyGrant .bowl 1 (.fits ⟨1, 256, 1⟩)) = false ∧
    Instr.wellFormed (.passGrant .bowl 1 (.fits ⟨256, 1⟩)) = false := by decide

theorem test_illFormed_layout_items :
    Instr.wellFormed (.layoutPoint .crest 1 (.fits ⟨1, .point 0, .track 1, .track 2, 1, 2, 2, none, none⟩)) = false ∧
    Instr.wellFormed (.layoutPoint .crest 1 (.fits ⟨1, .crest, .track 256, .track 2, 1, 2, 2, none, none⟩)) = false ∧
    Instr.wellFormed (.layoutTrack .crest 1 (.fits ⟨1, 65536, none, 1, none, none⟩)) = false ∧
    Instr.wellFormed (.layoutSensor .crest 1 (.fits ⟨256, 0, 40⟩)) = false ∧
    Instr.wellFormed (.layoutYard .crest 1 (.fits ⟨some 65536, none, none, none, none⟩)) = false := by decide

theorem test_illFormed_events :
    Instr.wellFormed (.unknownRequest .crest 1 6 false) = false ∧ Instr.wellFormed (.unknownRequest .crest 1 11 true) = false ∧
    Instr.wellFormed (.requestFrameReceived .crest 1 256 []) = false ∧
    Instr.wellFormed (.urgentFrameReceived .crest 256 11 []) = false ∧
    Instr.wellFormed (.requestFrameReceived .crest 1 6 (List.replicate 1025 0)) = false ∧
    Instr.wellFormed (.headRawEdge 128 .a true) = false ∧ Instr.wellFormed (.headRawEdge 0 .a true) = false ∧
    Instr.wellFormed (.filteredEdge (.out 64 .n) .a) = false ∧ Instr.wellFormed (.dwellTimerExpiry 0) = false ∧
    Instr.wellFormed (.diversionRequest ⟨1, 256⟩ 1 .catchUp .n) = false ∧
    Instr.wellFormed (.detectionInputEdge 64 .n true) = false ∧ Instr.wellFormed (.trackStateReport 65) = false := by
  decide +kernel

/-! ### Steps, reset, invariants -/

theorem test_yard_meets_invariants :
    standby.ready .planning ∧ standby.Settled ∧ active.Settled ∧ staged.Settled ∧ active.ready .crest := by decide +kernel

theorem test_answersBounded_notices_holds_drives_at_staged :
    staged.answersBounded ∧ staged.noticesBounded ∧ staged.holdsRight ∧ staged.drivesRight :=
  ⟨fun p => by cases p <;> decide +kernel, fun p => by cases p <;> decide +kernel, by unfold State.holdsRight; decide +kernel,
    by
      intro r hr
      have h : staged.points.all (fun r => !r.driveN && !r.driveR) = true := by decide +kernel
      have := List.all_eq_true.mp h r hr
      constructor <;> intro hd <;> simp [hd] at this⟩

/-- One step from a state that meets the premises of the invariants answers a next state. -/
theorem test_step_from_staged_is_a_tick :
    (match step staged with
     | .next t => t == staged.tick
     | _ => false) = true := by decide +kernel

theorem test_front_command_and_due_events :
    ({ standby with pending := [.frameSent .crest] } : State).pending = [.frameSent .crest] ∧
    ({ standby with evalDue := [⟨1, false⟩] } : State).nextDue = some (.pointEvaluation 1) ∧
    standby.nextDue = none ∧ standby.writeDue = false ∧
    ({ standby with load := .writing .crest layout 700000 } : State).writeDue = true ∧
    ({ standby with load := .writing .crest layout 700001 } : State).writeDue = false := by decide +kernel

/-! ### The line -/

/-- The check word of the check value "123456789" of its CRC (polynomial, initial value and no inversion of R181). -/
theorem test_crc_check_value :
    crc16 [0x31, 0x32, 0x33, 0x34, 0x35, 0x36, 0x37, 0x38, 0x39] = 0x29B1#16 := by decide +kernel

theorem test_receiver_gathers_frame :
    ((frameBytes 1 9 2 [0, 5, 0]).foldl (fun r b => r.feed 77 b) Receiver.hunting).frame = some ⟨1, 9, 2, [0, 5, 0], true⟩ ∧
    (frameBytes 1 9 2 [0, 5, 0]).take 9 = [0xC3#8, 0, 3, 1, 9, 2, 0, 5, 0] := by decide +kernel

theorem test_sent_request_fits :
    Instr.wellFormed (.enterCut .planning 3 (.fits ⟨65535, 96, 64, 1, some [32, 126]⟩)) = true ∧
    Wire.requestFrame (.enterCut .planning 3 (.fits ⟨65535, 96, 64, 1, some [32, 126]⟩)) =
      some ⟨.planning, false, 3, 16, [255, 255, 0, 96, 64, 1, 1, 2, 32, 126]⟩ ∧
    decodeRequest .planning 3 16 [255, 255, 0, 96, 64, 1, 1, 2, 32, 126] =
      .enterCut .planning 3 (.fits ⟨65535, 96, 64, 1, some [32, 126]⟩) ∧
    decodeRequest .planning 3 16 [0, 1, 0, 2, 5, 0, 2] = .enterCut .planning 3 (.misfit 6) := by decide +kernel

/-- A port with both slots and the urgent slot occupied, two BUSY answers queued and the line busy. -/
def fullPort : State :=
  standby.modPort .crest (fun q => { q with
    line := some (.notice ⟨0, .overrun 0⟩), working := some ⟨.readPort .crest 1 (.fits ()), false, false⟩,
    waiting := some (.readPort .crest 2 (.fits ())), urgent := some (.holdNow .crest 3 true (.fits ())),
    answers := [⟨.busy, ⟨4, 6, ⟨.busy, .nothing⟩⟩⟩] })

theorem test_request_frame_placement :
    fullPort.Settled ∧ standby.powered = true ∧
    ((after (.requestFrameReceived .crest 9 6 []) fullPort).ports.crest.answers.length = 2) ∧
    ((after (.requestFrameReceived .crest 9 6 []) (after (.requestFrameReceived .crest 9 6 []) fullPort)).ports.crest.answers.length
      = 2) ∧
    (after (.requestFrameReceived .crest 9 6 []) standby).ports.crest.working =
      some ⟨.readPort .crest 9 (.fits ()), false, false⟩ := by decide +kernel

theorem test_urgent_frame_placement :
    ((after (.urgentFrameReceived .crest 9 42 []) fullPort).ports.crest.answers.length = 2) ∧
    (after (.urgentFrameReceived .crest 9 42 []) standby).ports.crest.urgent =
      some (.freezePoints .crest 9 true (.fits ())) := by decide +kernel

/-- A request held in the Crest port's working slot, READ LIST waiting, nothing queued. -/
def heldAt (c : Instr) (discard : Bool) : State :=
  active.modPort .crest (fun q => { q with
    working := some ⟨c, false, discard⟩, waiting := some (.readList .crest 2 (.fits 1)) })
def urgentHeld : State := active.modPort .crest (fun q => { q with urgent := some (decodeUrgent .crest 1 11 []) })
/-- The same port with the slot emptied. -/
def free (s : State) : State := s.modPort .crest (fun q => { q with working := none })
def freeUrgent (s : State) : State := s.modPort .crest (fun q => { q with urgent := none })

theorem test_held_request_runs :
    decodeRequest .crest 1 35 [] = .holdHump .crest 1 (.fits ()) ∧ (heldAt (decodeRequest .crest 1 35 []) false).Settled ∧
    (free (heldAt (decodeRequest .crest 1 35 []) false)).ready .crest ∧
    gives (.holdHump .crest 1 (.fits ())) (heldAt (decodeRequest .crest 1 35 []) false)
      (after (.holdHump .crest 1 (.fits ())) (free (heldAt (decodeRequest .crest 1 35 []) false))) ∧
    (after (.holdHump .crest 1 (.fits ())) (heldAt (decodeRequest .crest 1 35 []) false)).holds = ⟨[(.operator, 10000)], []⟩ ∧
    ((after (.holdHump .crest 1 (.fits ())) (heldAt (decodeRequest .crest 1 35 []) false)).ports.get .crest).working =
      some ⟨.readList .crest 2 (.fits 1), false, false⟩ ∧
    answeredBy (after (.holdHump .crest 1 (.fits ())) (heldAt (decodeRequest .crest 1 35 []) false)) .crest 1 35
      ⟨.done, .holds ⟨[(.operator, 10000)], []⟩⟩ ∧
    urgentHeld.Settled ∧ (freeUrgent urgentHeld).readyUrgent .crest ∧
    gives (.holdNow .crest 1 true (.fits ())) urgentHeld (after (.holdNow .crest 1 true (.fits ())) (freeUrgent urgentHeld)) ∧
    (after (.holdNow .crest 1 true (.fits ())) urgentHeld).holds = ⟨[(.urgent, 10000)], [.crest]⟩ := by decide +kernel

/-- R192: the request is taken and completed, its answer discarded. -/
theorem test_discarded_answer :
    (heldAt (decodeRequest .crest 1 35 []) true).Settled ∧
    (after (.holdHump .crest 1 (.fits ())) (heldAt (decodeRequest .crest 1 35 []) true)).holds = ⟨[(.operator, 10000)], []⟩ ∧
    ((after (.holdHump .crest 1 (.fits ())) (heldAt (decodeRequest .crest 1 35 []) true)).ports.get .crest).answers = [] ∧
    ((after (.holdHump .crest 1 (.fits ())) (heldAt (decodeRequest .crest 1 35 []) true)).ports.get .crest).line = none ∧
    ((after (.holdHump .crest 1 (.fits ())) (heldAt (decodeRequest .crest 1 35 []) true)).ports.get .crest).working =
      some ⟨.readList .crest 2 (.fits 1), false, false⟩ ∧
    State.portDue .crest ((heldAt (decodeRequest .crest 1 35 []) true).ports.get .crest) =
      some (.holdHump .crest 1 (.fits ())) := by decide +kernel

/-- Receivers with a whole frame: of a bad check word, of kind 3; and one in an incomplete frame. -/
def badFrame : State := standby.modPort .bowl (fun q => { q with rx := ⟨[0xC3#8, 0, 0, 1, 1, 6, 0xC3#8, 0], [], 0⟩ })
def kindThree : State := standby.modPort .bowl (fun q => { q with rx := ⟨frameBytes 3 1 6 [], [], 0⟩ })
def partFrame : State := standby.modPort .bowl (fun q => { q with rx := ⟨[0xC3#8, 0, 4], [], 999000⟩ })

theorem test_receiver_events :
    badFrame.Settled ∧ (badFrame.ports.bowl.rx.frame.map WholeFrame.good) = some false ∧
    (kindThree.ports.bowl.rx.frame.map (fun f => (f.kind, f.good))) = some (3, true) ∧
    partFrame.ports.bowl.rx.isWhole = false ∧ 500 < partFrame.clock - partFrame.ports.bowl.rx.lastByte ∧
    (after (.frameDiscarded .bowl) badFrame).ports.bowl.rx.buf = [0xC3#8, 0] ∧
    (after (.frameDiscarded .bowl) kindThree).ports.bowl.rx = Receiver.hunting ∧
    (after (.interByteTimeout .bowl) partFrame).ports.bowl.rx = Receiver.hunting ∧
    (after (.lineBreakStart .bowl) partFrame).ports.bowl.rx = Receiver.hunting ∧
    (after (.byteReceived .bowl 0xC3#8) standby).ports.bowl.rx.buf = [0xC3#8] ∧
    (after (.byteReceived .bowl 0xC2#8) standby).ports.bowl.rx.buf = [] := by decide +kernel

/-- A break with a whole frame in hand and, behind a stray byte and behind a frame whose check word is bad, another: both stay, and
what is incomplete goes, also where the frame in hand is the bad one (R182). -/
theorem test_break_behind_a_whole_frame :
    Receiver.dropIncomplete ⟨frameBytes 1 1 6 [], 0x55#8 :: frameBytes 1 2 6 [] ++ [0xC3#8, 0, 4], 9⟩ =
      ⟨frameBytes 1 1 6 [], frameBytes 1 2 6 [], 9⟩ ∧
    Receiver.dropIncomplete ⟨[0xC3#8, 0, 0, 1, 1, 6, 0xC3#8, 0], 0#8 :: frameBytes 1 2 6 [1] ++ [7], 9⟩ =
      ⟨frameBytes 1 2 6 [1], [], 9⟩ ∧
    Receiver.dropIncomplete ⟨frameBytes 3 1 6 [], [0xC3#8, 0, 0, 1, 1, 6, 0xC3#8, 0], 9⟩ = ⟨frameBytes 3 1 6 [], [], 9⟩ := by
  decide +kernel

theorem test_line_break_reset :
    (after (.lineBreakReset .crest) { fullPort with load := .opened .crest layout }).load = .absent ∧
    (after (.lineBreakReset .crest) { fullPort with load := .opened .bowl layout }).load = .opened .bowl layout ∧
    (after (.lineBreakReset .crest) fullPort).ports.crest.working =
      some ⟨.readPort .crest 1 (.fits ()), false, true⟩ := by decide +kernel

/-- A port with an answer and two notices queued, and one whose overrun marker is set. -/
def notices2 : State := standby.modPort .speed (fun q => { q with
  line := some (.notice ⟨0, .overrun 0⟩), notices := [⟨1, .overrun 1⟩, ⟨2, .overrun 2⟩], overrun := true, discards := 3 })

theorem test_frame_sent :
    notices2.Settled ∧
    (after (.frameSent .speed) notices2).ports.speed.line = some (.notice ⟨1, .overrun 1⟩) ∧
    (after (.frameSent .speed) notices2).ports.speed.notices = [⟨2, .overrun 2⟩, ⟨standby.now, .overrun 3⟩] ∧
    (after (.frameSent .speed) notices2).ports.speed.overrun = false ∧
    (after (.frameSent .crest) fullPort).ports.crest.line = some (.answer ⟨4, 6, ⟨.busy, .nothing⟩⟩) := by decide +kernel

/-- A port to which a CUT STALLED notice was given, its notice queue full. -/
def given64 : State := standby.modPort .bowl (fun q => { q with
  line := some (.notice ⟨0, .overrun 0⟩), notices := List.replicate 64 ⟨0, .overrun 0⟩,
  given := [⟨5, .cutStalled 1 .unidentified 2⟩], discards := 65535 })

theorem test_notice_given :
    given64.Settled ∧ given64.ports.bowl.given = [⟨5, .cutStalled 1 .unidentified 2⟩] ∧
    (after (.noticeGiven .bowl) given64).ports.bowl.notices.length = 64 ∧
    (after (.noticeGiven .bowl) given64).ports.bowl.overrun = true ∧
    (after (.noticeGiven .bowl) given64).ports.bowl.discards = 65535 := by decide +kernel

/-! ### Reads, the port's own requests, hold reasons -/

theorem test_reads :
    staged.ready .speed ∧ staged.Settled ∧ staged.cut? ⟨5, 0⟩ = some cut5 ∧ staged.cut? ⟨5, 1⟩ = none ∧
    answeredBy (after (.readCut .speed 1 (.fits ⟨5, 0⟩)) staged) .speed 1 2
      ⟨.done, .cut cut5 [⟨⟨1, .n⟩, some none⟩, ⟨⟨2, .n⟩, some none⟩]⟩ ∧
    answeredBy (after (.readList .speed 1 (.fits 6)) staged) .speed 1 1
      ⟨.done, .list 6 1 true [⟨6, 2, 2, .restricted, none, .planning, none⟩]⟩ ∧
    (staged.point? 2).isSome ∧ staged.point? 3 = none ∧ (staged.track? 3).isSome ∧ staged.track? 4 = none ∧
    (staged.sectionAt? 1).isSome ∧ staged.sectionAt? 0 = none := by decide +kernel

theorem test_read_track_port_grants :
    answeredBy (after (.readTrack .bowl 1 (.fits 3)) standby) .bowl 1 4
      ⟨.done, .trackRec ⟨3, .closed, 0, 2, none, 0, none, .bowl, false, false⟩ (some (.table .bowl 1)) [.bowl]⟩ ∧
    gives (.readGrants .speed 1 (.misfit 0)) standby (standby.served .speed 1 7 ⟨.denied, .nothing⟩) ∧
    gives (.readPort .bowl 1 (.fits ())) standby (standby.served .bowl 1 6 ⟨.done,
      .port .bowl true false false 0 0 false 0 (Port.defaultMask .bowl) 0 .standby .none none ⟨[], []⟩ false 10000⟩) := by
  decide +kernel

theorem test_set_mask_and_port_reset :
    (after (.setMask .bowl 1 (.fits 127)) standby).ports.bowl.mask = ⟨true, true, true, true, true, true, true⟩ ∧
    gives (.setMask .bowl 1 (.fits 128)) standby (standby.served .bowl 1 8 ⟨.badValue, .nothing⟩) ∧
    (after (.portReset .bowl 1 (.fits ())) { standby with load := .opened .bowl layout }).load = .absent ∧
    answeredBy (after (.portReset .bowl 1 (.fits ())) given64) .bowl 1 9 ⟨.done, .nothing⟩ ∧
    (after (.portReset .bowl 1 (.fits ())) given64).ports.bowl.notices = [] ∧
    answeredBy (after (.portReset .speed 1 (.fits ())) given64) .speed 1 9 ⟨.done, .nothing⟩ ∧
    given64.ready .bowl := by decide +kernel

theorem test_unknown_and_out_of_role :
    standby.readyUrgent .bowl ∧
    answeredBy (after (.unknownRequest .bowl 4 6 true) standby) .bowl 4 6 ⟨.denied, .nothing⟩ ∧
    gives (.unknownRequest .bowl 4 99 false) standby (standby.served .bowl 4 99 ⟨.denied, .nothing⟩) ∧
    gives (.enterCut .crest 4 (.misfit 2)) standby (standby.served .crest 4 16 ⟨.denied, .nothing⟩) ∧
    gives (.closeTrack .speed 4 (.fits 1)) standby (standby.served .speed 4 64 ⟨.denied, .nothing⟩) := by decide +kernel

/-- R183 at a port of each role, whatever the fields; R186 for the urgent FREEZE POINTS. -/
theorem test_denied_by_role :
    standby.ready .speed ∧ standby.ready .bowl ∧ standby.ready .planning ∧
    answeredBy (after (.freezePoints .bowl 4 true (.misfit 0)) standby) .bowl 4 42 ⟨.denied, .nothing⟩ ∧
    gives (.layoutPoint .bowl 4 (.misfit 3)) standby (standby.served .bowl 4 25 ⟨.denied, .nothing⟩) ∧
    gives (.acceptNext .planning 4 (.misfit 1)) standby (standby.served .planning 4 36 ⟨.denied, .nothing⟩) ∧
    gives (.unfreeze .speed 4 (.fits ())) standby (standby.served .speed 4 43 ⟨.denied, .nothing⟩) ∧
    gives (.rerouteCut .bowl 4 (.misfit 2)) standby (standby.served .bowl 4 49 ⟨.denied, .nothing⟩) ∧
    gives (.speedReport .crest 4 (.fits ⟨⟨5, 0⟩, 1, 20⟩)) standby (standby.served .crest 4 56 ⟨.denied, .nothing⟩) ∧
    gives (.dropGrant .speed 4 (.fits 1)) standby (standby.served .speed 4 76 ⟨.denied, .nothing⟩) := by decide +kernel

/-- R17 after a power-on that finds no valid copy. -/
theorem test_wrong_mode_in_setup :
    State.reset.ready .crest ∧ State.reset.readyUrgent .crest ∧ State.reset.Settled ∧
    gives (.withdrawCut .planning 4 (.fits 1)) State.reset (State.reset.served .planning 4 18 ⟨.wrongMode, .nothing⟩) ∧
    gives (.clearSection .crest 4 (.fits 0)) State.reset (State.reset.served .crest 4 48 ⟨.wrongMode, .nothing⟩) ∧
    gives (.speedReport .speed 4 (.fits ⟨⟨5, 0⟩, 1, 19⟩)) State.reset (State.reset.served .speed 4 56 ⟨.wrongMode, .nothing⟩) ∧
    gives (.dropGrant .bowl 4 (.fits 0)) State.reset (State.reset.served .bowl 4 76 ⟨.wrongMode, .nothing⟩) ∧
    answeredBy (after (.freezePoints .crest 4 true (.fits ())) State.reset) .crest 4 42 ⟨.wrongMode, .nothing⟩ := by
  decide +kernel

/-- OPERATOR present since 4, URGENT since 6 for Planning and Bowl. -/
def held : State := { active with relay := false, holds := ⟨[(.operator, 4), (.urgent, 6)], [.planning, .bowl]⟩ }

theorem test_hold_requests :
    held.Settled ∧ held.ready .crest ∧ held.readyUrgent .speed ∧
    (after (.holdHump .crest 1 (.fits ())) active).holds = ⟨[(.operator, 10000)], []⟩ ∧
    (after (.holdHump .crest 1 (.fits ())) active).relay = false ∧
    (after (.holdHump .crest 1 (.fits ())) held).holds = held.holds ∧
    (after (.holdNow .speed 1 true (.fits ())) held).holds =
      ⟨[(.operator, 4), (.urgent, 6)], [.planning, .speed, .bowl]⟩ ∧
    answeredBy (after (.holdNow .speed 1 false (.fits ())) active) .speed 1 11
      ⟨.done, .holds ⟨[(.urgent, 10000)], [.speed]⟩⟩ := by decide +kernel

theorem test_release_hump :
    held.holdsRight ∧
    (after (.releaseHump .crest 1 (.fits ())) held).holds = ⟨[], []⟩ ∧
    (after (.releaseHump .crest 1 (.fits ())) held).relay = true ∧
    (after (.releaseHump .bowl 1 (.fits ())) held).holds = ⟨[(.operator, 4), (.urgent, 6)], [.planning]⟩ ∧
    (after (.releaseHump .speed 1 (.fits ())) held).holds = held.holds :=
  ⟨by unfold State.holdsRight; decide +kernel, by decide +kernel⟩

/-- TRACKING FAULT and INTRUSION present; an UNIDENTIFIED entry in P2's section; K DISTURBED. -/
def faulted : State := { active with relay := false, holds := ⟨[(.trackingFault, 4), (.intrusion, 6)], []⟩ }
def faultedAxles : State := faulted.modSection 2 (fun r => { r with occ := [⟨.unidentified, 3⟩] })
def faultedSensor : State := faulted.modSensor .k (fun r => { r with condition := .disturbed })

theorem test_acknowledgements :
    faulted.holdsRight ∧
    (after (.ackTracking .crest 1 (.fits ())) faulted).holds = ⟨[(.intrusion, 6)], []⟩ ∧
    (after (.ackIntrusion .crest 1 (.fits ())) faulted).holds = ⟨[(.trackingFault, 4)], []⟩ ∧
    gives (.ackTracking .crest 1 (.fits ())) active (active.served .crest 1 46 ⟨.done, .nothing⟩) ∧
    gives (.ackTracking .crest 1 (.fits ())) faultedAxles
      (faultedAxles.served .crest 1 46 ⟨.conflict, .unidentified 1 3 2⟩) ∧
    gives (.ackTracking .crest 1 (.fits ())) faultedSensor
      (faultedSensor.served .crest 1 46 ⟨.conflict, .disturbed 1 .k⟩) :=
  ⟨by unfold State.holdsRight; decide +kernel, by decide +kernel⟩

/-! ### Power, layout and yard modes -/

theorem test_power_on :
    ({ standby with store := ⟨layout, false⟩ } : State).store.valid = false ∧ standby.store.valid = true ∧
    (after .powerOn standby).mode = .standby ∧ ((after .powerOn standby).points.map PointRec.state) = [.locked .n, .locked .r] ∧
    ((after .powerOn { standby with detPins := [(1, .n), (1, .r)] }).points.map PointRec.state) =
      [.fault .detectionConflict, .fault .detectionLost] ∧
    (after .powerOn { standby with store := ⟨layout, false⟩ }).mode = .setup ∧
    gives (.frameSent .crest) (after .powerLoss standby) (after .powerLoss standby) := by decide +kernel

/-- An open load of Planning that holds the layout, roll list and Cut Table empty. -/
def loading : State := { standby with load := .opened .planning layout }
def writing : State :=
  { standby with load := .writing .planning layout 900000, store := ⟨layout, false⟩ }.modPort .planning (fun q =>
    { q with working := some ⟨.layoutCommit .planning 8 (.fits ()), true, false⟩ })

theorem test_layout_begin_and_abandon :
    loading.ready .planning ∧ loading.Settled ∧ writing.ready .crest ∧ writing.Settled ∧
    gives (.layoutBegin .crest 1 (.fits ())) active (active.served .crest 1 24 ⟨.wrongMode, .nothing⟩) ∧
    gives (.layoutBegin .crest 1 (.fits ())) writing (writing.served .crest 1 24 ⟨.busy, .nothing⟩) ∧
    gives (.layoutBegin .crest 1 (.fits ())) loading (loading.served .crest 1 24 ⟨.conflict, .nothing⟩) ∧
    gives (.layoutBegin .crest 1 (.fits ())) { standby with planned := orders }
      (({ standby with planned := orders } : State).served .crest 1 24 ⟨.conflict, .nothing⟩) ∧
    (after (.layoutBegin .planning 1 (.fits ())) loading).load = .opened .planning Layout.empty ∧
    gives (.layoutAbandon .crest 1 (.fits ())) writing (writing.served .crest 1 30 ⟨.busy, .nothing⟩) ∧
    (after (.layoutAbandon .planning 1 (.fits ())) loading).load = .absent := by decide +kernel

theorem test_layout_items :
    (after (.layoutPoint .planning 1 (.fits ⟨63, .crest, .track 1, .track 1, 0, 0, 0, none, none⟩)) loading).load =
      .opened .planning { layout with points := layout.points ++ [⟨63, .crest, .track 1, .track 1, 0, 0, 0, none, none⟩] } ∧
    gives (.layoutPoint .planning 1 (.fits ⟨64, .crest, .track 1, .track 1, 0, 0, 0, none, none⟩)) loading
      (loading.served .planning 1 25 ⟨.badValue, .nothing⟩) ∧
    gives (.layoutTrack .planning 1 (.fits ⟨65, 1, none, 1, none, none⟩)) loading
      (loading.served .planning 1 26 ⟨.badValue, .nothing⟩) ∧
    (after (.layoutTrack .planning 1 (.fits ⟨2, 9, none, 2, none, none⟩)) loading).load = .opened .planning
      { layout with tracks := [⟨1, 20, some 2, 1, none, none⟩, ⟨2, 9, none, 2, none, none⟩, ⟨3, 2, none, 4, none, none⟩] } ∧
    gives (.layoutSensor .planning 1 (.fits ⟨0, 0, 100⟩)) loading (loading.served .planning 1 27 ⟨.badValue, .nothing⟩) ∧
    (after (.layoutSensor .planning 1 (.fits ⟨127, 3, 200⟩)) loading).load =
      .opened .planning { layout with sensors := [⟨1, 0, 100⟩, ⟨127, 3, 200⟩] } ∧
    (after (.layoutYard .planning 1 (.fits ⟨none, none, some 5, none, none⟩)) loading).load =
      .opened .planning { layout with yard := some ⟨none, none, some 5, none, none⟩ } ∧
    gives (.layoutYard .crest 1 (.fits ⟨none, none, none, none, none⟩)) loading
      (loading.served .crest 1 28 ⟨.conflict, .nothing⟩) ∧
    gives (.layoutYard .crest 1 (.fits ⟨none, none, none, none, none⟩)) standby
      (standby.served .crest 1 28 ⟨.conflict, .nothing⟩) ∧
    gives (.layoutTrack .crest 1 (.fits ⟨65, 1, none, 1, none, none⟩)) writing
      (writing.served .crest 1 26 ⟨.busy, .nothing⟩) := by decide +kernel

theorem test_layout_commit :
    layout.failedCheck = none ∧
    (after (.layoutCommit .planning 8 (.fits ())) loading).load = .writing .planning layout 1000000 ∧
    (after (.layoutCommit .planning 8 (.fits ())) loading).store = ⟨layout, false⟩ ∧
    gives (.layoutCommit .planning 8 (.fits ())) { loading with load := .opened .planning Layout.empty }
      (({ loading with load := .opened .planning Layout.empty } : State).served .planning 8 29
        ⟨.badValue, .check 1 .none 0⟩) ∧
    gives (.layoutCommit .crest 8 (.fits ())) writing (writing.served .crest 8 29 ⟨.conflict, .nothing⟩) ∧
    gives (.layoutCommit .planning 8 (.fits ())) { loading with planned := orders }
      (({ loading with planned := orders } : State).served .planning 8 29 ⟨.conflict, .nothing⟩) := by decide +kernel

/-- A point item from its number, parent and targets, and a track item that Planning holds. -/
def pt (n : Nat) (parent : Parent) (a b : Target) : PointItem := ⟨n, parent, a, b, 100, 200, 20000, none, none⟩
def tk (n : Nat) : TrackItem := ⟨n, 1, none, 1, none, none⟩

/-- A chain of 13 points: the path to its last track has 13 steps. -/
def chain : Layout :=
  { Layout.empty with
    points := (List.range 13).map (fun i => pt (i + 1) (if i = 0 then .crest else .point i)
      (if i = 12 then .track 14 else .point (i + 2)) (.track (i + 1))),
    tracks := (List.range 14).map (fun i => tk (i + 1)) }

/-- A tree of 16 points with 17 tracks, all of them Planning's. -/
def tree : Layout :=
  let child := fun (c : Nat) => if c ≤ 16 then Target.point c else .track (c - 16)
  { Layout.empty with
    points := (List.range 16).map (fun i => pt (i + 1) (if i = 0 then .crest else .point ((i + 1) / 2))
      (child (2 * i + 2)) (child (2 * i + 3))),
    tracks := (List.range 17).map (fun i => tk (i + 1)) }

/-- The first failed check of a load, with its item. -/
def blames (l : Layout) (c : Nat × ItemKind × Nat) : Bool := l.failedCheck == some c

/-- Each check of R12 blames its item, in order; a loop below no root is not reached. -/
theorem test_validation_checks :
    blames Layout.empty (1, .none, 0) ∧
    blames { layout with points := layout.points.map (fun i => { i with toe := 99 }) } (2, .point, 1) ∧
    blames { layout with
        points := layout.points.map (fun i => { i with toe := 99 }),
        yard := some ⟨some 49, none, none, none, none⟩ } (2, .point, 1) ∧
    blames { layout with tracks := layout.tracks.map (fun i => { i with holder := 3 }) } (3, .track, 1) ∧
    blames { layout with sensors := [⟨5, 3, 40⟩, ⟨6, 0, 100⟩] } (4, .sensor, 6) ∧
    blames { layout with yard := some ⟨some 49, none, none, none, none⟩ } (5, .yard, 0) ∧
    blames { layout with points := [pt 1 (.point 2) (.point 2) (.track 3), pt 2 (.point 1) (.track 1) (.track 2)] } (6, .none, 0) ∧
    blames { layout with points := [pt 1 .crest (.point 2) (.track 3), pt 2 .crest (.track 1) (.track 2)] } (6, .point, 2) ∧
    blames { layout with points := [pt 1 .crest (.track 1) (.track 3), pt 2 (.point 1) (.track 1) (.track 2)] } (7, .point, 2) ∧
    blames { layout with tracks := layout.tracks ++ [⟨9, 1, none, 1, none, none⟩] } (8, .track, 9) ∧
    blames { layout with
        points := [pt 1 .crest (.track 1) (.track 2), pt 2 (.point 3) (.point 3) (.track 3),
          pt 3 (.point 2) (.point 2) (.track 4)],
        tracks := layout.tracks ++ [tk 4] } (9, .point, 2) ∧
    blames chain (10, .track, 13) ∧ blames tree (11, .track, 17) := by decide +kernel

theorem layout_grantsFit : layout.grantsFit :=
  ⟨by decide, by decide, fun _ => Nat.le_trans (List.length_filter_le _ _) (by decide)⟩

/-- Custody is right in STANDBY, with a load open, and with a load whose write is under way, which is the premise of a switch-over. -/
theorem test_custody_right : standby.custodyRight ∧ loading.custodyRight ∧ writing.custodyRight := by
  have slots : ∀ p : Port, (standby.custody.get p).slots.length = (if p = .speed then 0 else 16) ∧
      (standby.custody.get p).inbound.length ≤ 4 ∧ ((standby.custody.get p).slots.filterMap (fun g => g.map Grant.track)).Nodup := by
    intro p
    cases p <;> decide +kernel
  have tables : ∀ p : Port, (standby.custody.get p).slots.length = (if p = .speed then 0 else 16) ∧
      (standby.custody.get p).inbound.length ≤ 4 ∧
      ∀ n, ((standby.custody.get p).slots.filter (fun g => match g with
        | some g => g.track == n
        | none => false)).length ≤ 1 :=
    fun p => ⟨(slots p).1, (slots p).2.1, one_grant_each _ (slots p).2.2⟩
  have closes : ∀ l, standby.active = some l → ∀ i ∈ l.tracks, standby.closeGrants i.num = 1 := by
    intro l hl
    injection hl with hl
    subst hl
    decide +kernel
  refine ⟨⟨tables, closes, fun _ => layout_grantsFit, ?_, ?_⟩, ⟨tables, closes, fun _ => layout_grantsFit, ?_, ?_⟩,
    ⟨tables, closes, fun h => absurd h (by decide), ?_, ?_⟩⟩
  all_goals
    intros
    rename_i h
    cases h
  · exact layout_grantsFit.1
  · exact layout_grantsFit

theorem test_commit_write_end :
    writing.load = .writing .planning layout 900000 ∧
    writing.ports.planning.working = some ⟨.layoutCommit .planning 8 (.fits ()), true, false⟩ ∧
    (after (.commitWriteEnd true) writing).store = ⟨layout, true⟩ ∧ (after (.commitWriteEnd true) writing).load = .absent ∧
    gave (after (.commitWriteEnd true) writing) (.mode .standby (some .standby) .commit) ∧
    answeredBy (after (.commitWriteEnd true) writing) .planning 8 29 ⟨.done, .nothing⟩ ∧
    (after (.commitWriteEnd false) writing).load = .opened .planning layout ∧
    answeredBy (after (.commitWriteEnd false) writing) .planning 8 29 ⟨.conflict, .check 12 .none 0⟩ := by decide +kernel

theorem test_start_humping :
    (after (.startHumping .crest 1 (.fits ())) standby).mode = .active ∧
    (after (.startHumping .crest 1 (.fits ())) standby).holds = ⟨[(.listEmpty, 10000), (.unproven, 10000)], []⟩ ∧
    (after (.startHumping .crest 1 (.fits ())) standby).relay = false ∧
    (after (.startHumping .crest 1 (.fits ())) { active with mode := .standby, relay := false }).relay = true ∧
    (after (.startHumping .crest 1 (.fits ())) { active with mode := .standby, relay := false }).cuts = [cut5] ∧
    ({ active with mode := .standby, relay := false } : State).Settled ∧
    gives (.startHumping .planning 1 (.fits ())) standby (standby.served .planning 1 32 ⟨.denied, .nothing⟩) ∧
    gives (.startHumping .crest 1 (.fits ())) loading (loading.served .crest 1 32 ⟨.conflict, .nothing⟩) := by decide +kernel

/-- START HUMPING with a list of two: the notices of the hold set it brings, and the head entry that finds no OPEN track or no
free record (R18, R73, R75). -/
def toStart (s : State) : State := { s with mode := .standby, relay := false }
def holdNotices (s : State) (p : Port) : Nat := ((s.ports.get p).given.filter (fun n => match n.body with
  | .holdState .. => true
  | _ => false)).length
def noTrackOpen : State := toStart ((active.modTrack 1 (fun r => { r with state := .full })).modTrack 2 (fun r =>
  { r with state := .closing }))
/-- T1 CLOSED, its alternate T2 OPEN. -/
def t1Closed' : State := active.modTrack 1 (fun r => { r with state := .closed })
def tableFull : State := toStart { active with
  cuts := (List.range 24).map (fun n => { cut5 with id := ⟨100 + n, 0⟩, state := .rolling, counted := 1, held := 1 }) }

theorem test_start_humping_with_a_list :
    (toStart active).Settled ∧ (toStart active).ready .crest ∧ noTrackOpen.Settled ∧ tableFull.Settled ∧
    holdNotices (after (.startHumping .crest 1 (.fits ())) (toStart active)) .bowl = 1 ∧
    holdNotices (after (.startHumping .crest 1 (.fits ())) standby) .bowl = 1 ∧
    (after (.startHumping .crest 1 (.fits ())) noTrackOpen).holds = ⟨[(.nextUnroutable, 10000)], []⟩ ∧
    (after (.startHumping .crest 1 (.fits ())) noTrackOpen).planned = orders ∧
    (after (.startHumping .crest 1 (.fits ())) tableFull).holds = ⟨[(.capacity, 10000)], []⟩ ∧
    ((after (.startHumping .crest 1 (.fits ())) (toStart t1Closed')).cuts.map (fun r => (r.dest, r.status))) = [(2, .alternate)] ∧
    (after (.startHumping .crest 1 (.fits ())) (toStart { active with planned := orders.tail })).holds =
      ⟨[(.nextRestricted, 10000)], []⟩ := by decide +kernel

/-- Cut 5 is ROLLING. -/
def rolling : State := { staged with cuts := [{ cut5 with state := .rolling, counted := 3, held := 3 }] }

theorem test_stop_humping :
    (after (.stopHumping .crest 1 (.fits ())) staged).mode = .standby ∧
    (after (.stopHumping .crest 1 (.fits ())) staged).planned = orders ∧
    (after (.stopHumping .crest 1 (.fits ())) staged).cuts = [] ∧
    gave (after (.stopHumping .crest 1 (.fits ())) staged) (.cutStaged ⟨5, 0⟩ .returned 3 1 .normal none .planning none) ∧
    (after (.stopHumping .crest 1 (.fits ())) rolling).mode = .draining ∧
    (after (.stopHumping .crest 1 (.fits ())) rolling).relay = false ∧ rolling.staged? = none ∧
    gives (.stopHumping .crest 1 (.fits ())) standby (standby.served .crest 1 33 ⟨.done, .nothing⟩) := by decide +kernel

def stalledYard : State := { staged with mode := .standby, relay := false, holds := ⟨[(.operator, 1), (.stall, 2)], []⟩ }

theorem test_yard_clear :
    stalledYard.Settled ∧ stalledYard.ready .crest ∧
    (after (.yardClear .crest 1 (.fits ())) stalledYard).holds = ⟨[(.operator, 1)], []⟩ ∧
    (after (.yardClear .crest 1 (.fits ())) stalledYard).cuts = [] ∧
    (after (.yardClear .crest 1 (.fits ())) stalledYard).floor = 0 ∧
    (after (.yardClear .crest 1 (.fits ())) stalledYard).sections.all (fun r => !r.proven) ∧
    gives (.yardClear .crest 1 (.fits ())) staged (staged.served .crest 1 34 ⟨.wrongMode, .nothing⟩) ∧
    gives (.yardClear .crest 1 (.fits ())) writing (writing.served .crest 1 34 ⟨.busy, .nothing⟩) := by decide +kernel

/-! ### Roll list and staging -/

def refusedEnter (a : EnterArgs) (st : Status) (d : AnswerData) : Bool :=
  gives (.enterCut .planning 1 (.fits a)) active (active.served .planning 1 16 ⟨st, d⟩)

theorem test_enter_cut_refusals :
    refusedEnter ⟨0, 2, 1, 0, none⟩ .badValue (.field .roll none) ∧
    refusedEnter ⟨7, 1, 1, 0, none⟩ .badValue (.field .axles none) ∧
    refusedEnter ⟨7, 97, 1, 0, none⟩ .badValue (.field .axles none) ∧
    refusedEnter ⟨7, 2, 1, 2, none⟩ .badValue (.field .cls none) ∧
    refusedEnter ⟨7, 2, 1, 0, some (List.replicate 13 65)⟩ .badValue (.field .tag none) ∧
    refusedEnter ⟨7, 2, 4, 0, none⟩ .noSuch .nothing ∧ refusedEnter ⟨7, 2, 3, 0, none⟩ .noRight .nothing ∧
    refusedEnter ⟨6, 2, 1, 0, none⟩ .badValue (.field .roll (some 6)) ∧
    gives (.enterCut .planning 1 (.fits ⟨0, 2, 1, 0, none⟩)) { active with load := .writing .crest layout 1 }
      (({ active with load := .writing .crest layout 1 } : State).served .planning 1 16 ⟨.busy, .nothing⟩) ∧
    gives (.enterCut .planning 1 (.fits ⟨7, 2, 1, 0, none⟩)) { active with planned := List.replicate 96 ⟨1, 2, 1, .normal, none, .planning⟩ }
      (({ active with planned := List.replicate 96 ⟨1, 2, 1, .normal, none, .planning⟩ } : State).served .planning 1 16
        ⟨.full, .nothing⟩) := by decide +kernel

/-- The only entry of an empty list in ACTIVE is STAGED at once; another waits at the tail. -/
theorem test_enter_cut_accepted :
    (after (.enterCut .planning 1 (.fits ⟨7, 2, 1, 1, none⟩)) { active with planned := [] }).planned = [] ∧
    (after (.enterCut .planning 1 (.fits ⟨7, 2, 1, 1, none⟩)) { active with planned := [] }).staged? =
      some { cut5 with id := ⟨7, 0⟩, cls := .restricted, expected := 2 } ∧
    (after (.enterCut .planning 1 (.fits ⟨7, 2, 1, 1, none⟩)) { active with planned := [] }).holds =
      ⟨[(.nextRestricted, 10000)], []⟩ ∧
    (after (.enterCut .planning 1 (.fits ⟨65535, 96, 2, 1, none⟩)) active).planned =
      orders ++ [⟨65535, 96, 2, .restricted, none, .planning⟩] ∧
    active.custody.planning.slots.length = 16 := by decide +kernel

theorem test_amend_cut :
    (after (.amendCut .planning 1 (.fits ⟨6, 1⟩)) staged).planned = [⟨6, 2, 1, .restricted, none, .planning⟩] ∧
    answeredBy (after (.amendCut .planning 1 (.fits ⟨6, 1⟩)) staged) .planning 1 17 ⟨.done, .planState false⟩ ∧
    (after (.amendCut .planning 1 (.fits ⟨5, 2⟩)) staged).cut? ⟨5, 0⟩ =
      some { cut5 with planned := 2, dest := 2, path := [⟨1, .n⟩, ⟨2, .r⟩] } ∧
    answeredBy (after (.amendCut .planning 1 (.fits ⟨5, 2⟩)) staged) .planning 1 17 ⟨.done, .planState true⟩ ∧
    gives (.amendCut .planning 1 (.fits ⟨8, 1⟩)) staged (staged.served .planning 1 17 ⟨.noSuch, .roll 8⟩) ∧
    gives (.amendCut .planning 1 (.fits ⟨5, 1⟩)) rolling (rolling.served .planning 1 17 ⟨.tooLate, .nothing⟩) ∧
    gives (.amendCut .planning 1 (.fits ⟨5, 9⟩)) staged (staged.served .planning 1 17 ⟨.noSuch, .track 9⟩) ∧
    gives (.amendCut .planning 1 (.fits ⟨5, 3⟩)) staged (staged.served .planning 1 17 ⟨.noRight, .nothing⟩) := by
  decide +kernel

theorem test_withdraw_cut :
    (after (.withdrawCut .crest 1 (.fits 6)) staged).planned = [] ∧
    ({ staged with mode := .standby, relay := false } : State).Settled ∧
    (after (.withdrawCut .crest 1 (.fits 5)) { staged with mode := .standby, relay := false }).cuts = [] ∧
    gave (after (.withdrawCut .crest 1 (.fits 5)) staged) (.cutStaged ⟨5, 0⟩ .withdrawn 3 1 .normal none .planning none) ∧
    ((after (.withdrawCut .crest 1 (.fits 5)) staged).cuts.map CutRec.id) = [⟨6, 0⟩] ∧
    gives (.withdrawCut .planning 1 (.fits 5)) rolling (rolling.served .planning 1 18 ⟨.tooLate, .nothing⟩) ∧
    gives (.withdrawCut .planning 1 (.fits 65535)) rolling (rolling.served .planning 1 18 ⟨.noSuch, .nothing⟩) ∧
    gives (.withdrawCut .planning 1 (.fits 0)) rolling (rolling.served .planning 1 18 ⟨.badValue, .nothing⟩) := by
  decide +kernel

/-- R65 to R70 at the head of the list in ACTIVE with no STAGED record: the attempt that follows. -/
theorem test_head_entry_attempts :
    active.Settled ∧ active.staged? = none ∧ active.planned.head?.map PlannedEntry.roll = some 5 ∧
    (after (.withdrawCut .crest 1 (.fits 5)) active).planned = [] ∧
    ((after (.withdrawCut .crest 1 (.fits 5)) active).cuts.map CutRec.id) = [⟨6, 0⟩] ∧
    (after (.withdrawCut .crest 1 (.fits 5)) active).holds = ⟨[(.nextRestricted, 10000)], []⟩ ∧
    (after (.withdrawCut .crest 1 (.fits 5)) { active with planned := orders.take 1 }).holds = ⟨[(.listEmpty, 10000)], []⟩ ∧
    (after (.withdrawCut .crest 1 (.fits 5)) { staged with planned := [] }).holds = ⟨[(.listEmpty, 10000)], []⟩ ∧
    (after (.amendCut .planning 1 (.fits ⟨5, 2⟩)) active).cuts.map (fun r => (r.id, r.planned, r.dest)) = [(⟨5, 0⟩, 2, 2)] ∧
    (after (.amendCut .planning 1 (.fits ⟨5, 2⟩)) (active.modTrack 2 (fun r => { r with state := .full }))).planned =
      ⟨5, 3, 2, .normal, none, .planning⟩ :: orders.tail ∧
    (after (.amendCut .planning 1 (.fits ⟨5, 2⟩)) (active.modTrack 2 (fun r => { r with state := .full }))).holds =
      ⟨[(.nextUnroutable, 10000)], []⟩ ∧
    (after (.enterCut .planning 1 (.fits ⟨9, 2, 2, 0, none⟩))
      (({ active with planned := [] } : State).modTrack 2 (fun r => { r with state := .full }))).planned =
      [⟨9, 2, 2, .normal, none, .planning⟩] ∧
    (after (.enterCut .planning 1 (.fits ⟨9, 2, 2, 0, none⟩))
      (({ active with planned := [] } : State).modTrack 2 (fun r => { r with state := .full }))).holds =
      ⟨[(.nextUnroutable, 10000)], []⟩ := by decide +kernel

/-- Cut 5 RESTRICTED and not accepted. -/
def restricted : State :=
  { staged with cuts := [{ cut5 with cls := .restricted }], relay := false, holds := ⟨[(.nextRestricted, 8)], []⟩ }

theorem test_accept_next :
    restricted.Settled ∧
    (after (.acceptNext .crest 1 (.fits 5)) restricted).cuts = [{ cut5 with cls := .restricted, accepted := true }] ∧
    (after (.acceptNext .crest 1 (.fits 5)) restricted).relay = true ∧
    gives (.acceptNext .crest 1 (.fits 6)) restricted (restricted.served .crest 1 36 ⟨.conflict, .roll 5⟩) ∧
    gives (.acceptNext .crest 1 (.fits 5)) staged (staged.served .crest 1 36 ⟨.conflict, .nothing⟩) ∧
    gives (.acceptNext .crest 1 (.fits 5)) active (active.served .crest 1 36 ⟨.noSuch, .nothing⟩) := by decide +kernel

def leftDue : State := { active with stagedLeftDue := true }
/-- T1 CLOSED, its alternate T2 OPEN; then T2 CLOSED as well. -/
def t1Closed : State := leftDue.modTrack 1 (fun r => { r with state := .closed })
def t12Closed : State := t1Closed.modTrack 2 (fun r => { r with state := .closed })

theorem test_staging :
    leftDue.Settled ∧ leftDue.staged? = none ∧
    (after .stagedRecordLeft leftDue).cuts = [cut5] ∧ (after .stagedRecordLeft leftDue).planned = orders.tail ∧
    (after .stagedRecordLeft leftDue).demands = staged.demands ∧
    ((after .stagedRecordLeft t1Closed).cuts.map (fun r => (r.dest, r.status))) = [(2, .alternate)] ∧
    (after .stagedRecordLeft t12Closed).holds = ⟨[(.nextUnroutable, 10000)], []⟩ ∧
    (after .stagedRecordLeft { leftDue with planned := [] }).holds = ⟨[(.listEmpty, 10000)], []⟩ ∧
    (after .stagedRecordLeft { leftDue with demands := [⟨1, List.replicate 255 ⟨⟨9, 0⟩, .n, none⟩⟩] }).holds =
      ⟨[(.capacity, 10000)], []⟩ ∧
    ((after (.trackStateReport 1) { active with trackReportDue := [1] }).cuts) = [cut5] := by decide +kernel

def reported : State :=
  (({ staged with trackReportDue := [1] } : State).modTrack 1 (fun r => { r with state := .closing })).modTrack 2
    (fun r => { r with state := .full })

theorem test_closed_destination :
    reported.Settled ∧ reported.staged? = some cut5 ∧
    (after (.trackStateReport 1) reported).planned = orders ∧ (after (.trackStateReport 1) reported).cuts = [] ∧
    (after (.trackStateReport 1) reported).holds = ⟨[(.nextUnroutable, 10000)], []⟩ ∧
    gives (.trackStateReport 2) reported reported.startLines := by decide +kernel

/-- Cut 5 rerouted to T3 with one step, and the pool full: no room for the two steps to T1 or T2. -/
def poolFull : State :=
  { staged with
    cuts := [{ cut5 with dest := 3, status := .rerouted, path := [⟨1, .r⟩] }],
    demands := [⟨1, ⟨⟨5, 0⟩, .r, none⟩ :: List.replicate 255 ⟨⟨9, 0⟩, .n, none⟩⟩, ⟨2, []⟩] }
def t3Closing : State := (({ poolFull with trackReportDue := [3] } : State).modTrack 3 (fun r => { r with state := .closing }))
/-- The same with room. -/
def t3Leaving : State := { t3Closing with demands := [⟨1, [⟨⟨5, 0⟩, .r, none⟩]⟩, ⟨2, []⟩] }

/-- R68: to the alternate, back to the list for want of an OPEN track, and for want of room. -/
theorem test_amend_the_staged_record :
    (after (.amendCut .planning 1 (.fits ⟨5, 1⟩)) (staged.modTrack 1 (fun r => { r with state := .closing }))).cut? ⟨5, 0⟩ =
      some { cut5 with dest := 2, status := .alternate, path := [⟨1, .n⟩, ⟨2, .r⟩] } ∧
    gave (after (.amendCut .planning 1 (.fits ⟨5, 1⟩)) staged)
      (.cutStaged ⟨5, 0⟩ .rePlanned 3 1 .normal none .planning (some (1, .asPlanned, 2))) ∧
    (after (.amendCut .planning 1 (.fits ⟨5, 2⟩)) (staged.modTrack 2 (fun r => { r with state := .full }))).planned =
      ⟨5, 3, 2, .normal, none, .planning⟩ :: orders.tail ∧
    (after (.amendCut .planning 1 (.fits ⟨5, 2⟩)) (staged.modTrack 2 (fun r => { r with state := .full }))).holds =
      ⟨[(.nextUnroutable, 10000)], []⟩ ∧
    answeredBy (after (.amendCut .planning 1 (.fits ⟨5, 2⟩)) (staged.modTrack 2 (fun r => { r with state := .full })))
      .planning 1 17 ⟨.done, .planState false⟩ ∧
    poolFull.poolFree + poolFull.demandCount ⟨5, 0⟩ = 1 ∧
    (after (.amendCut .planning 1 (.fits ⟨5, 2⟩)) poolFull).cuts = [] ∧
    (after (.amendCut .planning 1 (.fits ⟨5, 2⟩)) poolFull).holds = ⟨[(.capacity, 10000)], []⟩ := by decide +kernel

/-- R78: to the planned track, to its alternate, and back to the list for want of room. -/
theorem test_recheck :
    t3Closing.Settled ∧
    (after (.trackStateReport 3) t3Leaving).cuts = [cut5] ∧ (after (.trackStateReport 3) t3Leaving).demands = staged.demands ∧
    ((after (.trackStateReport 3) t3Leaving).track? 3).map (fun r => (r.state, r.committed)) = some (.closed, 0) ∧
    gave (after (.trackStateReport 3) t3Leaving)
      (.cutStaged ⟨5, 0⟩ .rePlanned 3 1 .normal none .planning (some (1, .asPlanned, 2))) ∧
    ((after (.trackStateReport 1) (({ staged with trackReportDue := [1] } : State).modTrack 1 (fun r =>
      { r with state := .full }))).cuts.map (fun r => (r.dest, r.status))) = [(2, .alternate)] ∧
    (after (.trackStateReport 3) t3Closing).planned = orders ∧
    (after (.trackStateReport 3) t3Closing).holds = ⟨[(.capacity, 10000)], []⟩ := by decide +kernel

/-! ### Points -/

def p1 : PointRec := (active.point? 1).getD ⟨0, .locked .n, none, ⟨false, []⟩, ⟨false, []⟩, none, false, none, ⟨0, 0⟩, none, false, false⟩

/-- P1 in the state given; in FAULT with POINT FAULT present. -/
def withP1 (f : PointRec → PointRec) : State := active.modPoint 1 f
def p1Fault (n r : Bool) : State :=
  { withP1 (fun q => { q with state := .fault .detectionLost, detN := ⟨n, []⟩, detR := ⟨r, []⟩, runIn := true }) with
    relay := false, holds := ⟨[(.runIn, 3), (.pointFault, 3)], []⟩ }

theorem test_block_point :
    active.point? 1 = some p1 ∧ p1.state = .locked .n ∧
    (after (.blockPoint .crest 1 (.fits ⟨1, 0⟩)) active).point? 1 = some { p1 with blocked := some .n } ∧
    (after (.blockPoint .crest 1 (.fits ⟨1, 1⟩)) active).point? 1 =
      some { p1 with blocked := some .r, state := .throwing .r 10000, driveR := true } ∧
    answeredBy (after (.blockPoint .crest 1 (.fits ⟨1, 1⟩)) active) .crest 1 40
      ⟨.done, .blocked (.throwing .r 10000) .r true⟩ ∧
    (after (.blockPoint .crest 1 (.fits ⟨1, 1⟩)) { active with freeze := true }).point? 1 =
      some { p1 with blocked := some .r } ∧
    (after (.blockPoint .crest 1 (.fits ⟨2, 1⟩)) staged).diversionDue = [⟨⟨5, 0⟩, 2, .blocked, .r⟩] ∧
    gives (.blockPoint .crest 1 (.fits ⟨1, 2⟩)) active (active.served .crest 1 40 ⟨.badValue, .nothing⟩) ∧
    gives (.blockPoint .crest 1 (.fits ⟨3, 2⟩)) active (active.served .crest 1 40 ⟨.noSuch, .nothing⟩) := by decide +kernel

theorem test_block_fault_and_restore :
    ({ p1Fault false true with holds := ⟨[], []⟩ }.modPoint 1 (fun q => { q with runIn := false })).ready .crest ∧
    ((after (.blockPoint .crest 1 (.fits ⟨1, 1⟩)) (withP1 (fun q => { q with
      state := .fault .runIn, detN := ⟨false, []⟩, detR := ⟨true, []⟩ }))).point? 1).map PointRec.state = some (.locked .r) ∧
    ((after (.blockPoint .crest 1 (.fits ⟨1, 1⟩)) (withP1 (fun q => { q with state := .fault .runIn }))).point? 1).map
      PointRec.state = some (.throwing .r 10000) ∧
    ((after (.blockPoint .crest 1 (.fits ⟨1, 1⟩)) (p1Fault false true)).point? 1).map PointRec.state =
      some (.fault .detectionLost) ∧
    (after (.restorePoint .crest 1 (.fits 1)) (withP1 (fun q => { q with blocked := some .r }))).point? 1 = some p1 ∧
    answeredBy (after (.restorePoint .crest 1 (.fits 1)) (withP1 (fun q => { q with blocked := some .r }))) .crest 1 41
      ⟨.done, .restored (.locked .n) .n⟩ := by decide +kernel

theorem test_freeze_unfreeze_timing :
    active.readyUrgent .crest ∧
    (after (.freezePoints .crest 1 true (.fits ())) active).freeze = true ∧
    gave (after (.freezePoints .crest 1 false (.fits ())) active) (.pointState none .freeze none) ∧
    (after (.unfreeze .crest 1 (.fits ())) { active with freeze := true }).evalDue = [⟨1, false⟩, ⟨2, false⟩] ∧
    (after (.setPointTiming .crest 1 (.fits ⟨1, 4000, 5000⟩)) active).point? 1 = some { p1 with timing := ⟨4000, 5000⟩ } ∧
    ((after (.setPointTiming .crest 1 (.fits ⟨1, 200, 300⟩)) (withP1 (fun q => { q with state := .throwing .n 0 }))).point? 1).map
      PointRec.pendingTiming = some (some ⟨200, 300⟩) ∧
    gives (.setPointTiming .crest 1 (.fits ⟨1, 199, 300⟩)) active (active.served .crest 1 44 ⟨.badValue, .nothing⟩) ∧
    gives (.setPointTiming .crest 1 (.fits ⟨9, 200, 300⟩)) active (active.served .crest 1 44 ⟨.noSuch, .nothing⟩) := by
  decide +kernel

theorem test_ack_fault :
    (p1Fault true false).Settled ∧
    (after (.ackFault .crest 1 (.fits (.point 1))) (p1Fault true false)).holds = ⟨[], []⟩ ∧
    (after (.ackFault .crest 1 (.fits (.point 1))) (p1Fault true false)).relay = true ∧
    ((after (.ackFault .crest 1 (.fits (.point 1))) (p1Fault true false)).point? 1).map PointRec.state = some (.locked .n) ∧
    (after (.ackFault .crest 1 (.fits (.point 1))) (p1Fault true true)).holds = ⟨[(.pointFault, 3)], []⟩ ∧
    answeredBy (after (.ackFault .crest 1 (.fits (.point 1))) (p1Fault true true)) .crest 1 45 ⟨.conflict, .pair .both⟩ ∧
    gives (.ackFault .crest 1 (.fits (.point 1))) active
      (({ active with evalDue := [⟨1, false⟩] } : State).served .crest 1 45 ⟨.done, .pointState (.locked .n)⟩) ∧
    ((after (.ackFault .crest 1 (.fits (.sensor 1))) faultedSensor).sensor? .k).map SensorRec.condition = some .normal ∧
    gives (.ackFault .crest 1 (.fits (.sensor 128))) active (active.served .crest 1 45 ⟨.noSuch, .nothing⟩) := by
  decide +kernel

/-- An evaluation of P2 due, which lies R while cut 5 needs N, with the toe time given. -/
def p2Due (toe : Option YardTime) : State :=
  { staged with evalDue := [⟨2, false⟩], demands := [⟨1, []⟩, ⟨2, [⟨⟨5, 0⟩, .n, toe⟩]⟩] }

/-- R126: the allowance of P2 is 300 ms, and the time now 10000. -/
theorem test_evaluation :
    (p2Due none).Settled ∧
    ((after (.pointEvaluation 2) (p2Due none)).point? 2).map PointRec.state = some (.throwing .n 10000) ∧
    ((after (.pointEvaluation 2) (p2Due (some 10300))).point? 2).map PointRec.state = some (.throwing .n 10000) ∧
    (after (.pointEvaluation 2) (p2Due (some 10299))).diversionDue = [⟨⟨5, 0⟩, 2, .catchUp, .r⟩] ∧
    (after (.pointEvaluation 2) (p2Due (some 9999))).diversionDue = [⟨⟨5, 0⟩, 2, .catchUp, .r⟩] ∧
    gives (.pointEvaluation 1) (p2Due none) (p2Due none).startLines ∧
    gives (.pointEvaluation 2) { p2Due none with freeze := true }
      ({ p2Due none with freeze := true, evalDue := [] } : State).startLines ∧
    (after (.pointEvaluation 2) ((p2Due none).modPoint 2 (fun q => { q with blocked := some .r }))).diversionDue =
      [⟨⟨5, 0⟩, 2, .blocked, .r⟩] ∧
    ((after (.pointEvaluation 2) ((p2Due none).modPoint 2 (fun q => { q with blocked := some .n }))).point? 2).map
      PointRec.state = some (.throwing .n 10000) := by decide +kernel

/-- P2 blocked in R, where it lies, with a head demand for N. -/
def p2Held (toe : Option YardTime) : State := (p2Due toe).modPoint 2 (fun q => { q with blocked := some .r })

/-- R142: the restored point is thrown for the head demand, or a CATCH-UP is asked for. -/
theorem test_restore_with_a_demand :
    (p2Held none).ready .crest ∧
    ((after (.restorePoint .crest 1 (.fits 2)) (p2Held none)).point? 2).map (fun q => (q.blocked, q.state)) =
      some (none, .throwing .n 10000) ∧
    answeredBy (after (.restorePoint .crest 1 (.fits 2)) (p2Held none)) .crest 1 41 ⟨.done, .restored (.throwing .n 10000) .n⟩ ∧
    gave (after (.restorePoint .crest 1 (.fits 2)) (p2Held none))
      (.pointState (some 2) .restored (some ⟨.locked .r, .r, some .r, none, false⟩)) ∧
    (after (.restorePoint .crest 1 (.fits 2)) (p2Held (some 10299))).diversionDue = [⟨⟨5, 0⟩, 2, .catchUp, .r⟩] ∧
    (after (.restorePoint .crest 1 (.fits 2)) { p2Held none with freeze := true }).points = (p2Due none).points := by
  decide +kernel

/-- R127 step 1, R141: the head demand against the block is asked to divert when the point moves, and not before. -/
theorem test_block_against_the_head :
    (after (.pointEvaluation 2) ((p2Due none).modPoint 2 (fun q => { q with blocked := some .n }))).diversionDue = [] ∧
    (after (.pointEvaluation 1) { ({ p2Due none with demands := [⟨1, [⟨⟨5, 0⟩, .n, none⟩]⟩, ⟨2, []⟩] } : State).modPoint 1
      (fun q => { q with blocked := some .r }) with evalDue := [⟨1, false⟩] }).diversionDue = [⟨⟨5, 0⟩, 1, .blocked, .r⟩] ∧
    gives (.pointEvaluation 2) { (p2Due none).modPoint 2 (fun q => { q with blocked := some .n }) with freeze := true }
      ({ (p2Due none).modPoint 2 (fun q => { q with blocked := some .n }) with freeze := true, evalDue := [] } : State).startLines ∧
    (after (.blockPoint .crest 1 (.fits ⟨1, 1⟩)) staged).diversionDue = [⟨⟨5, 0⟩, 1, .blocked, .r⟩] ∧
    ((after (.blockPoint .crest 1 (.fits ⟨1, 1⟩)) staged).point? 1).map PointRec.state = some (.throwing .r 10000) ∧
    (after (.blockPoint .crest 1 (.fits ⟨1, 1⟩)) { staged with freeze := true }).diversionDue = [] := by decide +kernel

/-- P1 in FAULT, blocked N, its pair as given, with a head demand for R and an evaluation due. -/
def p1Blocked (n r after : Bool) : State :=
  { (p1Fault n r).modPoint 1 (fun q => { q with
      blocked := some .n, runIn := false, pendingTiming := some ⟨200, 300⟩ }) with
    evalDue := [⟨1, after⟩], demands := [⟨1, [⟨⟨5, 0⟩, .r, none⟩]⟩, ⟨2, []⟩] }

/-- R128: a recovery lock, a recovery throw, and no second throw right after one that failed. -/
theorem test_evaluation_of_fault :
    (p1Blocked true false false).Settled ∧
    ((after (.pointEvaluation 1) (p1Blocked true false false)).point? 1).map (fun q => (q.state, q.timing, q.pendingTiming)) =
      some (.locked .n, ⟨200, 300⟩, none) ∧
    (after (.pointEvaluation 1) (p1Blocked true false false)).diversionDue = [⟨⟨5, 0⟩, 1, .blocked, .n⟩] ∧
    (after (.pointEvaluation 1) (p1Blocked true false false)).holds = ⟨[(.runIn, 3)], []⟩ ∧
    gave (after (.pointEvaluation 1) (p1Blocked true false false))
      (.pointState (some 1) (.locked none false) (some ⟨.locked .n, .n, some .n, some .n, false⟩)) ∧
    ((after (.pointEvaluation 1) (p1Blocked false true false)).point? 1).map (fun q => (q.state, q.driveN, q.pendingTiming)) =
      some (.throwing .n 10000, true, some ⟨200, 300⟩) ∧
    (after (.pointEvaluation 1) (p1Blocked false true false)).diversionDue = [⟨⟨5, 0⟩, 1, .blocked, .n⟩] ∧
    gives (.pointEvaluation 1) (p1Blocked true false true) ({ p1Blocked true false true with evalDue := [] } : State).startLines := by
  decide +kernel

/-- P2 thrown toward N since 9500; its N input came on at 998000, that is 20 ms before now. -/
def p2Throwing (owed : List RawChange) (mark : Bool) : State := active.modPoint 2 (fun q => { q with
  state := .throwing .n 9500, detN := ⟨false, owed⟩, detR := ⟨false, []⟩, driveN := true, runIn := mark })

theorem test_detection :
    (p2Throwing [⟨true, 998000⟩] false).Settled ∧
    ((after (.detectionEvent 2) (p2Throwing [⟨true, 998000⟩] false)).point? 2).map
      (fun q => (q.state, q.measured, q.last, q.driveN)) = some (.locked .n, some 500, some .n, false) ∧
    gave (after (.detectionEvent 2) (p2Throwing [⟨true, 998000⟩] false))
      (.pointState (some 2) (.locked (some 500) true) (some ⟨.locked .n, .n, some .n, none, false⟩)) ∧
    ((after (.detectionEvent 2) (p2Throwing [⟨true, 998000⟩] true)).point? 2).map PointRec.state = some (.fault .runIn) ∧
    gives (.detectionEvent 2) (p2Throwing [⟨true, 998001⟩] false) (p2Throwing [⟨true, 998001⟩] false).startLines ∧
    (after (.detectionInputEdge 2 .n false) { p2Throwing [⟨true, 998001⟩] false with detPins := [(2, .n)] }).points =
      (p2Throwing [] false).points := by decide +kernel

def p2Off (n r : DetInput) : State := active.modPoint 2 (fun q => { q with detN := n, detR := r })

theorem test_detection_faults_and_timeout :
    ((after (.detectionEvent 2) (p2Off ⟨false, []⟩ ⟨true, [⟨false, 0⟩]⟩)).point? 2).map PointRec.state =
      some (.fault .detectionLost) ∧
    ((after (.detectionEvent 2) (p2Off ⟨false, [⟨true, 0⟩]⟩ ⟨true, []⟩)).point? 2).map PointRec.state =
      some (.fault .detectionConflict) ∧
    (after (.detectionEvent 2) (p2Off ⟨false, []⟩ ⟨true, [⟨false, 0⟩]⟩)).holds = ⟨[(.pointFault, 10000)], []⟩ ∧
    ((after (.throwTimeout 2) ((p2Throwing [] false).modPoint 2 (fun q => { q with timing := ⟨300, 500⟩ }))).point? 2).map
      PointRec.state = some (.fault .throwTimeout) ∧
    gives (.throwTimeout 2) ((p2Throwing [] false).modPoint 2 (fun q => { q with timing := ⟨300, 501⟩ }))
      ((p2Throwing [] false).modPoint 2 (fun q => { q with timing := ⟨300, 501⟩ })).startLines := by decide +kernel

/-- P2 in a state given, its inputs as given; what a detection event makes of its state and last detected position. -/
def p2In (st : PointState) (mark : Bool) (n r : DetInput) : State :=
  active.modPoint 2 (fun q => { q with state := st, runIn := mark, detN := n, detR := r })
def p2Then (s : State) : Option (PointState × Option Pos) :=
  ((after (.detectionEvent 2) s).point? 2).map (fun q => (q.state, q.last))

/-- R133, R138: an input that comes on or goes off 20 ms before now, the other one still. -/
theorem test_other_detection_events :
    p2Then (p2In (.throwing .n 9500) false ⟨false, [⟨true, 998000⟩]⟩ ⟨true, []⟩) = some (.fault .detectionConflict, some .r) ∧
    p2Then (p2In (.throwing .n 9500) true ⟨false, [⟨true, 998000⟩]⟩ ⟨true, []⟩) = some (.fault .runIn, some .r) ∧
    gave (after (.detectionEvent 2) (p2In (.throwing .n 9500) false ⟨false, [⟨true, 998000⟩]⟩ ⟨true, []⟩))
      (.pointState (some 2) (.fault (some .conflict) none) (some ⟨.fault .detectionConflict, .r, some .r, none, false⟩)) ∧
    (after (.detectionEvent 2) (p2In (.throwing .n 9500) false ⟨false, [⟨true, 998000⟩]⟩ ⟨true, []⟩)).evalDue = [⟨2, true⟩] ∧
    p2Then (p2In (.throwing .n 9500) false ⟨false, []⟩ ⟨true, [⟨false, 998000⟩]⟩) = some (.throwing .n 9500, some .r) ∧
    p2Then (p2In (.throwing .r 9500) false ⟨false, [⟨true, 998000⟩]⟩ ⟨false, []⟩) = some (.throwing .r 9500, some .n) ∧
    p2Then (p2In (.locked .r) false ⟨true, []⟩ ⟨true, [⟨false, 998000⟩]⟩) = some (.fault .detectionLost, some .n) ∧
    p2Then (p2In (.locked .r) false ⟨false, []⟩ ⟨false, [⟨true, 998000⟩]⟩) = some (.locked .r, some .r) ∧
    p2Then (p2In (.fault .runIn) false ⟨false, [⟨true, 998000⟩]⟩ ⟨false, []⟩) = some (.fault .runIn, some .n) := by
  decide +kernel

/-! ### Routes -/

/-- Cut 5 FORMING, its head in P1's section since 9000 at 200 cm/s. -/
def forming : State :=
  { staged with
    cuts := [{ cut5 with state := .forming, counted := 1, held := 1, frontier := some 1, head := some ⟨.k, some 200, 9000⟩ }],
    demands := [⟨1, []⟩, ⟨2, [⟨⟨5, 0⟩, .n, none⟩]⟩],
    crest := { Crest.idle with phase := .forming, current := some (.cut ⟨5, 0⟩), countdown := 2 },
    sections := staged.sections.map (fun r => if r.point = 1 then { r with occ := [⟨.cut ⟨5, 0⟩, 1⟩], dwell := .running 9000 } else r) }

/-- R109: 2000 + 1200 cm at 200 cm/s, times 85 percent, is 13600 ms; at 400 cm/s half of it. -/
theorem test_predictions :
    forming.Settled ∧
    ((forming.predict ⟨5, 0⟩).queueOf 2).map Demand.toe = [some 22600] ∧
    ((after (.speedReport .speed 1 (.fits ⟨⟨5, 0⟩, 1, 400⟩)) forming).queueOf 2).map Demand.toe = [some 15800] ∧
    (after (.speedReport .speed 1 (.fits ⟨⟨5, 0⟩, 1, 400⟩)) forming).cuts.map CutRec.speed = [some ⟨1, 400⟩] := by
  decide +kernel

/-- Cut 5 with its head in P1's section and no measured speed. -/
def unmeasured : State :=
  { forming with cuts := forming.cuts.map (fun r => { r with head := some ⟨.k, none, 9000⟩ }) }

def toesAt2 (a : SpeedArgs) (s : State) : List (Option YardTime) :=
  ((after (.speedReport .speed 1 (.fits a)) s).queueOf 2).map Demand.toe

/-- A report for the point the head is in is used at once; one for a later point leaves the head's own speed, or none. -/
theorem test_speed_report :
    forming.layout.entrySensor 1 = .k ∧ forming.layout.entrySensor 2 = .out 1 .n ∧ unmeasured.Settled ∧
    toesAt2 ⟨⟨5, 0⟩, 1, 20⟩ unmeasured = [some (9000 + 136000)] ∧ toesAt2 ⟨⟨5, 0⟩, 2, 20⟩ forming = [some 22600] ∧
    toesAt2 ⟨⟨5, 0⟩, 2, 20⟩ unmeasured = [none] ∧
    toesAt2 ⟨⟨5, 0⟩, 1, 20⟩ { forming with cuts := forming.cuts.map (fun r => { r with stalled := true }) } = [none] ∧
    (after (.speedReport .speed 1 (.fits ⟨⟨5, 0⟩, 1, 20⟩)) unmeasured).evalDue = [⟨2, false⟩] ∧
    gives (.speedReport .speed 1 (.fits ⟨⟨5, 0⟩, 1, 19⟩)) forming (forming.served .speed 1 56 ⟨.badValue, .nothing⟩) ∧
    gives (.speedReport .speed 1 (.fits ⟨⟨6, 0⟩, 1, 20⟩)) forming (forming.served .speed 1 56 ⟨.noSuch, .nothing⟩) ∧
    gives (.speedReport .speed 1 (.fits ⟨⟨5, 0⟩, 3, 1500⟩)) forming (forming.served .speed 1 56 ⟨.noSuch, .nothing⟩) ∧
    gives (.speedReport .speed 1 (.fits ⟨⟨5, 0⟩, 1, 1500⟩)) { forming with cuts := [{ cut5 with frontier := none }] }
      (({ forming with cuts := [{ cut5 with frontier := none }] } : State).served .speed 1 56 ⟨.tooLate, .nothing⟩) := by
  decide +kernel

theorem test_reroute :
    (after (.rerouteCut .crest 1 (.fits ⟨⟨5, 0⟩, 3⟩)) staged).cut? ⟨5, 0⟩ =
      some { cut5 with path := [⟨1, .r⟩], dest := 3, status := .rerouted } ∧
    answeredBy (after (.rerouteCut .crest 1 (.fits ⟨⟨5, 0⟩, 2⟩)) forming) .crest 1 49 ⟨.done, .path [⟨1, .n⟩, ⟨2, .r⟩]⟩ ∧
    gives (.rerouteCut .crest 1 (.fits ⟨⟨5, 0⟩, 3⟩)) forming (forming.served .crest 1 49 ⟨.tooLate, .nothing⟩) ∧
    gives (.rerouteCut .crest 1 (.fits ⟨⟨5, 0⟩, 1⟩)) forming (forming.served .crest 1 49 ⟨.done, .nothing⟩) ∧
    gives (.rerouteCut .crest 1 (.fits ⟨⟨5, 0⟩, 9⟩)) forming (forming.served .crest 1 49 ⟨.noSuch, .nothing⟩) ∧
    gives (.rerouteCut .crest 1 (.fits ⟨⟨5, 0⟩, 2⟩)) reported (reported.served .crest 1 49 ⟨.conflict, .nothing⟩) ∧
    gives (.rerouteCut .crest 1 (.fits ⟨⟨5, 0⟩, 2⟩))
        { staged with demands := [⟨1, List.replicate 255 ⟨⟨9, 0⟩, .n, none⟩⟩] }
      (({ staged with demands := [⟨1, List.replicate 255 ⟨⟨9, 0⟩, .n, none⟩⟩] } : State).served .crest 1 49
        ⟨.full, .nothing⟩) := by decide +kernel

/-- A CATCH-UP request at P2 for the lie R; the same with T2 CLOSED; and one for P1 R, whose only track is T3. -/
def asked : State := { forming with diversionDue := [⟨⟨5, 0⟩, 2, .catchUp, .r⟩] }
def askedClosed : State := asked.modTrack 2 (fun r => { r with state := .closed })
def askedTop : State := { staged with diversionDue := [⟨⟨5, 0⟩, 1, .blocked, .r⟩] }

theorem test_diversion :
    asked.Settled ∧
    ((after (.diversionRequest ⟨5, 0⟩ 2 .catchUp .r) asked).cuts.map (fun r => (r.dest, r.status, r.path))) =
      [(2, .diverted, [⟨1, .n⟩, ⟨2, .r⟩])] ∧
    gave (after (.diversionRequest ⟨5, 0⟩ 2 .catchUp .r) asked)
      (.cutDiverted ⟨5, 0⟩ .catchUp (some ⟨2, .r⟩) 1 2 .diverted 2 .track) ∧
    (after (.diversionRequest ⟨5, 0⟩ 2 .catchUp .r) askedClosed).holds = ⟨[(.intrusion, 10000)], []⟩ ∧
    ((after (.diversionRequest ⟨5, 0⟩ 2 .catchUp .r) askedClosed).track? 2).map TrackRec.state = some .closing ∧
    ((after (.diversionRequest ⟨5, 0⟩ 1 .blocked .r) askedTop).cuts.map (fun r => (r.dest, r.path))) = [(3, [⟨1, .r⟩])] ∧
    gives (.diversionRequest ⟨5, 0⟩ 2 .catchUp .n) { forming with diversionDue := [⟨⟨5, 0⟩, 2, .catchUp, .n⟩] }
      forming.startLines ∧
    gives (.diversionRequest ⟨8, 0⟩ 2 .catchUp .n) { forming with diversionDue := [⟨⟨8, 0⟩, 2, .catchUp, .n⟩] }
      forming.startLines := by decide +kernel

/-- R114: cut 5, bound for T3, is diverted at P1 to T2 with no free entry for P2. -/
def askedShort : State := { poolFull with diversionDue := [⟨⟨5, 0⟩, 1, .blocked, .n⟩] }

theorem test_diversion_with_the_pool_short :
    askedShort.Settled ∧ askedShort.diversionTrack { cut5 with dest := 3, path := [⟨1, .r⟩] } ⟨1, .n⟩ = some 2 ∧
    ((after (.diversionRequest ⟨5, 0⟩ 1 .blocked .n) askedShort).cuts.map (fun r => (r.dest, r.path, r.pathEnd))) =
      [(2, [⟨1, .n⟩], .opened)] ∧
    (after (.diversionRequest ⟨5, 0⟩ 1 .blocked .n) askedShort).holds = ⟨[(.capacity, 10000)], []⟩ ∧
    gave (after (.diversionRequest ⟨5, 0⟩ 1 .blocked .n) askedShort)
      (.cutDiverted ⟨5, 0⟩ .blocked (some ⟨1, .n⟩) 3 2 .diverted 1 .opened) := by decide +kernel

/-! ### Sections and timers -/

/-- P1's section holds cut 5 with 3 axles and 2 UNIDENTIFIED, UNPROVEN, its dwell EXPIRED; STALL and UNPROVEN present. -/
def stalled : State :=
  { rolling with
    relay := false, holds := ⟨[(.stall, 5), (.unproven, 5)], []⟩,
    sections := rolling.sections.map (fun r => if r.point = 1 then
      { r with occ := [⟨.cut ⟨5, 0⟩, 1⟩, ⟨.unidentified, 2⟩], dwell := .expired 9000, proven := false } else r) }

theorem test_clear_section :
    stalled.Settled ∧
    answeredBy (after (.clearSection .crest 1 (.fits 1)) stalled) .crest 1 48 ⟨.done, .cleared 1 2⟩ ∧
    (after (.clearSection .crest 1 (.fits 1)) stalled).holds = ⟨[], []⟩ ∧
    (after (.clearSection .crest 1 (.fits 1)) stalled).cuts.map CutRec.held = [2] ∧
    answeredBy (after (.clearSection .crest 1 (.fits 0)) stalled) .crest 1 48 ⟨.done, .cleared 1 2⟩ ∧
    gives (.clearSection .crest 1 (.fits 1)) faultedSensor
      (faultedSensor.served .crest 1 48 ⟨.conflict, .sensor .k⟩) ∧
    gives (.clearSection .crest 1 (.fits 0)) faultedSensor (faultedSensor.served .crest 1 48 ⟨.conflict, .point 1⟩) ∧
    gives (.clearSection .crest 1 (.fits 63)) active (active.served .crest 1 48 ⟨.noSuch, .nothing⟩) := by decide +kernel

/-- A lone cut of 3 held axles, all of them in the section cleared, retires. -/
def lone : State := { rolling with sections := rolling.sections.map (fun r => { r with occ := if r.point = 1 then [⟨.cut ⟨5, 0⟩, 3⟩] else [] }) }

theorem test_clear_section_retires :
    (after (.clearSection .crest 1 (.fits 1)) lone).cut? ⟨5, 0⟩ = none ∧ lone.cut? ⟨5, 0⟩ ≠ none ∧
    gave (after (.clearSection .crest 1 (.fits 1))
      ({ lone with cuts := lone.cuts.map (fun r => { r with frontier := none }) } : State))
      (.cutArrived ⟨5, 0⟩ 1 0 0 3 [] false) := by decide +kernel

/-- P1 LOCKED with timing pending and its section occupied and UNPROVEN. -/
def pendingTimed : State := stalled.modPoint 1 (fun q => { q with pendingTiming := some ⟨200, 300⟩ })

/-- R55, R125, R145: a section emptied or proven takes the pending timing of its LOCKED point, and lets it be evaluated. -/
theorem test_section_report :
    ((after (.clearSection .crest 1 (.fits 1)) pendingTimed).point? 1).map (fun q => (q.timing, q.pendingTiming)) =
      some (⟨200, 300⟩, none) ∧
    (after (.clearSection .crest 1 (.fits 1)) pendingTimed).evalDue = [⟨1, false⟩] ∧
    (after (.clearSection .crest 1 (.fits 0)) pendingTimed).evalDue = [⟨1, false⟩] ∧
    (after (.clearSection .crest 1 (.fits 1)) active).evalDue = [] ∧
    (pendingTimed.afterEmpty 1 true).evalDue = [⟨1, false⟩] ∧ (pendingTimed.afterEmpty 1 true).points = pendingTimed.points ∧
    pendingTimed.afterEmpty 1 false = pendingTimed := by decide +kernel

/-- P1's dwell timer has run since the time given; the limit of the layout is 30000 ms and the time now 10000. -/
def dwelling (start : YardTime) : State :=
  forming.modSection 1 (fun r => { r with dwell := .running start })

theorem test_dwell_timer :
    (dwelling (10000 - 30000)).Settled ∧ (dwelling (10000 - 30000)).layout.dwellMs = 30000 ∧
    (after (.dwellTimerExpiry 1) (dwelling (10000 - 30000))).holds = ⟨[(.stall, 10000)], []⟩ ∧
    (after (.dwellTimerExpiry 1) (dwelling (10000 - 30000))).cuts.map CutRec.stalled = [true] ∧
    gave (after (.dwellTimerExpiry 1) (dwelling (10000 - 30000))) (.cutStalled 1 (.cut ⟨5, 0⟩) 1) ∧
    gives (.dwellTimerExpiry 1) (dwelling (10000 - 29999)) (dwelling (10000 - 29999)).startLines := by decide +kernel

/-- The crest SEPARATING cut 5 with its gap timer to the time given; a run. -/
def separating (c : Occupant) (e : YardTime) : State :=
  { forming with crest := ⟨.separating, some c, 0, 0, some 9000, some (some 200), some e⟩ }

/-- R87: the gap timer runs ceil(250 * 1000 / v) ms. -/
theorem test_gap_timer :
    (separating .unidentified 10000).Settled ∧ (separating (.cut ⟨5, 0⟩) 10000).Settled ∧
    gapDuration 250 (some 120) = 2084 ∧ gapDuration 250 none = 12500 ∧
    (after .gapTimerExpiry (separating (.cut ⟨5, 0⟩) 10000)).cuts.map CutRec.state = [.rolling] ∧
    (after .gapTimerExpiry (separating (.cut ⟨5, 0⟩) 10000)).crest =
      ⟨.idle, none, 0, 0, some 9000, some (some 200), none⟩ ∧
    (after .gapTimerExpiry { separating (.cut ⟨5, 0⟩) 10000 with cuts := [{ cut5 with state := .forming }] }).cuts = [] ∧
    (after .gapTimerExpiry (separating .unidentified 10000)).crest = Crest.idle ∧
    gives .gapTimerExpiry (separating (.cut ⟨5, 0⟩) 10001) (separating (.cut ⟨5, 0⟩) 10001).startLines := by decide +kernel

/-! ### Tracks and custody -/

def t1 (f : TrackRec → TrackRec) : State := standby.modTrack 1 f

/-- T1 FULL, in ACTIVE with an alternate or none. -/
def t1Full (a : Option Nat) : State := active.modTrack 1 (fun r => { r with state := .full, alternate := a })

/-- R157, R158: in ACTIVE with no STAGED record the new alternate lets the head entry be staged; in STANDBY the track alone changes. -/
theorem test_set_alternate :
    (after (.setAlternate .planning 1 (.fits ⟨1, none⟩)) active).cuts = [cut5] ∧
    ((after (.setAlternate .planning 1 (.fits ⟨1, none⟩)) active).track? 1).map TrackRec.alternate = some none ∧
    gave (after (.setAlternate .planning 1 (.fits ⟨1, none⟩)) active)
      (.trackState 1 .alternate .opened .opened 0 20 0 none none none) ∧
    (after (.setAlternate .planning 1 (.fits ⟨1, some 2⟩)) (t1Full (some 2))).cuts.map CutRec.dest = [2] ∧
    (after (.setAlternate .planning 1 (.fits ⟨1, none⟩)) (t1Full none)).holds = ⟨[(.nextUnroutable, 10000)], []⟩ ∧
    (after (.setAlternate .planning 1 (.fits ⟨1, none⟩)) standby).trackReportDue = [] ∧
    (after (.closeTrack .planning 1 (.fits 1)) active).trackReportDue = [1] ∧
    gave (after (.closeTrack .planning 1 (.fits 1)) active) (.trackState 1 .close .closed .opened 0 20 0 (some 2) none none) := by
  decide +kernel

theorem test_track_requests :
    ((after (.openTrack .planning 1 (.fits 1)) standby).track? 1).map TrackRec.state = some .opened ∧
    ((after (.openTrack .planning 1 (.fits 1)) (t1 (fun r => { r with fill := 20 }))).track? 1).map TrackRec.state = some .full ∧
    ((after (.closeTrack .planning 1 (.fits 1)) (t1 (fun r => { r with state := .full, committed := 1 }))).track? 1).map
      TrackRec.state = some .closing ∧
    gives (.closeTrack .planning 1 (.fits 1)) standby (standby.served .planning 1 64 ⟨.done, .trackState .closed⟩) ∧
    ((after (.pullRecord .planning 1 (.fits ⟨1, 3⟩)) (t1 (fun r => { r with fill := 3, lastArrived := some ⟨1, 0⟩ }))).track? 1).map
      (fun r => (r.fill, r.lastArrived)) = some (3, none) ∧
    gives (.pullRecord .planning 1 (.fits ⟨1, 1⟩)) standby (standby.served .planning 1 66 ⟨.badValue, .number 0⟩) ∧
    gives (.pullRecord .planning 1 (.fits ⟨1, 0⟩)) active (active.served .planning 1 66 ⟨.conflict, .trackState .opened⟩) ∧
    gives (.closeTrack .crest 1 (.fits 1)) standby (standby.served .crest 1 64 ⟨.noRight, .nothing⟩) ∧
    gives (.closeTrack .crest 1 (.fits 4)) standby (standby.served .crest 1 64 ⟨.noSuch, .nothing⟩) := by decide +kernel

theorem test_capacity_and_alternate :
    ((after (.setCapacity .bowl 1 (.fits ⟨3, 1000⟩)) standby).track? 3).map TrackRec.capacity = some 1000 ∧
    ((after (.setCapacity .planning 1 (.fits ⟨1, 1⟩)) (t1 (fun r => { r with fill := 1, state := .opened }))).track? 1).map
      TrackRec.state = some .full ∧
    gives (.setCapacity .bowl 1 (.fits ⟨3, 1001⟩)) standby (standby.served .bowl 1 67 ⟨.badValue, .nothing⟩) ∧
    ((after (.setAlternate .bowl 1 (.fits ⟨3, some 1⟩)) standby).track? 3).map TrackRec.alternate = some (some 1) ∧
    gives (.setAlternate .bowl 1 (.fits ⟨3, some 3⟩)) standby (standby.served .bowl 1 68 ⟨.badValue, .nothing⟩) ∧
    gives (.setAlternate .bowl 1 (.fits ⟨3, some 4⟩)) standby (standby.served .bowl 1 68 ⟨.noSuch, .nothing⟩) := by
  decide +kernel

def full (t : Nat) (p : Port) : Grant := ⟨t, ⟨true, true, true⟩, p⟩

theorem test_copy_and_pass :
    (after (.copyGrant .planning 1 (.fits ⟨2, 4, 1⟩)) standby).custody.bowl.inbound =
      [⟨⟨2, ⟨true, false, false⟩, .planning⟩, .planning, .copied⟩] ∧
    (after (.passGrant .planning 1 (.fits ⟨2, 2⟩)) standby).custody.crest.inbound = [⟨full 2 .planning, .planning, .passed⟩] ∧
    (after (.passGrant .planning 1 (.fits ⟨2, 2⟩)) standby).custody.planning.slots.take 3 =
      [some (full 1 .planning), none, none] ∧
    gives (.copyGrant .planning 1 (.fits ⟨1, 4, 3⟩)) standby (standby.served .planning 1 72 ⟨.badValue, .nothing⟩) ∧
    gives (.passGrant .planning 1 (.fits ⟨16, 4⟩)) standby (standby.served .planning 1 73 ⟨.noSuch, .nothing⟩) ∧
    gives (.passGrant .planning 1 (.fits ⟨1, 3⟩)) standby (standby.served .planning 1 73 ⟨.denied, .nothing⟩) ∧
    gives (.passGrant .planning 1 (.fits ⟨1, 1⟩)) standby (standby.served .planning 1 73 ⟨.badValue, .nothing⟩) ∧
    gives (.passGrant .planning 1 (.fits ⟨0, 5⟩)) standby (standby.served .planning 1 73 ⟨.badValue, .nothing⟩) ∧
    gives (.passGrant .planning 1 (.fits ⟨17, 4⟩)) standby (standby.served .planning 1 73 ⟨.badValue, .nothing⟩) := by
  decide +kernel

/-- R164: T2 has both notify flags; Crest, which is not its creator, holds its grant and hands it on. -/
def noting : State := standby.modCustody .crest (fun c => { c with slots := some (full 2 .planning) :: c.slots.tail })

theorem test_grant_notes :
    noting.Settled ∧
    (after (.copyGrant .crest 1 (.fits ⟨1, 4, 1⟩)) noting).ports.speed.given =
      [⟨10000, .grantOffer .bowl .copied ⟨2, ⟨true, false, false⟩, .planning⟩ .crest 1⟩,
       ⟨10000, .grantNote .planning .copied 2 ⟨true, false, false⟩ .crest .bowl none⟩] ∧
    gave (after (.passGrant .crest 1 (.fits ⟨1, 4⟩)) noting)
      (.grantNote .planning .passed 2 ⟨true, true, true⟩ .crest .bowl none) ∧
    (after (.passGrant .planning 1 (.fits ⟨2, 4⟩)) standby).ports.speed.given.length = 1 := by decide +kernel

/-- Crest is offered the whole grant for T2 while it has a copy of it in slot 3, and Bowl's queue is full. -/
def offered : State :=
  { standby with custody :=
    { standby.custody with
      planning := { standby.custody.planning with slots := some (full 1 .planning) :: List.replicate 15 none },
      crest := ⟨none :: none :: some ⟨2, ⟨true, false, false⟩, .planning⟩ :: List.replicate 13 none,
        [⟨full 2 .planning, .planning, .passed⟩]⟩,
      bowl := { standby.custody.bowl with inbound := List.replicate 4 ⟨full 9 .crest, .crest, .copied⟩ } } }

theorem test_take_refuse_drop :
    offered.Settled ∧
    answeredBy (after (.takeGrant .crest 1 (.fits 16)) offered) .crest 1 74
      ⟨.done, .taken 3 2 ⟨true, true, true⟩ .passed .planning⟩ ∧
    (after (.takeGrant .bowl 1 (.fits 0)) offered).custody.bowl.slots.take 3 = [some (full 3 .bowl), some (full 9 .crest), none] ∧
    gives (.takeGrant .bowl 1 (.fits 1)) offered (offered.served .bowl 1 74 ⟨.badValue, .track 3⟩) ∧
    gives (.takeGrant .bowl 1 (.fits 17)) offered (offered.served .bowl 1 74 ⟨.badValue, .nothing⟩) ∧
    gives (.takeGrant .planning 1 (.fits 1)) offered (offered.served .planning 1 74 ⟨.noSuch, .nothing⟩) ∧
    (after (.refuseGrant .crest 1 (.fits ())) offered).custody.planning.inbound = [⟨full 2 .planning, .crest, .returned⟩] ∧
    gives (.refuseGrant .planning 1 (.fits ())) offered (offered.served .planning 1 75 ⟨.noSuch, .nothing⟩) ∧
    answeredBy (after (.dropGrant .crest 1 (.fits 3)) offered) .crest 1 76 ⟨.done, .track 2⟩ ∧
    gives (.dropGrant .bowl 1 (.fits 1)) offered (offered.served .bowl 1 76 ⟨.conflict, .nothing⟩) := by decide +kernel

theorem test_recall :
    answeredBy (after (.recallGrant .crest 1 (.fits 3)) offered) .crest 1 50 ⟨.done, .recalled 1 .bowl true⟩ ∧
    answeredBy (after (.recallGrant .crest 1 (.fits 2)) offered) .crest 1 50 ⟨.done, .recalled 3 .crest false⟩ ∧
    offered.closePlace 2 = some (.queue .crest 1) ∧
    gave (after (.recallGrant .crest 1 (.fits 1)) standby)
      (.grantNote .planning .recalled 1 ⟨true, true, true⟩ .crest .crest (some true)) ∧
    gives (.recallGrant .crest 1 (.fits 4)) standby (standby.served .crest 1 50 ⟨.noSuch, .nothing⟩) := by decide +kernel

/-! ### Wheel sensors, crest and axles -/

theorem test_raw_edges :
    (after (.headRawEdge 1 .a true) active).headPins = [(1, .a)] ∧
    ((after (.headRawEdge 1 .a true) active).sensor? .k).map (fun r => r.a.owed) = some [⟨true, 1000000⟩] ∧
    ((after (.headRawEdge 5 .a true) active).sensor? (.out 2 .r)).map (fun r => r.a.owed) = some [⟨true, 1000000⟩] ∧
    ((after (.headRawEdge 5 .a false) (after (.headRawEdge 5 .a true) active)).sensor? (.out 2 .r)).map (fun r => r.a.owed) =
      some [] ∧
    gives (.headRawEdge 127 .b false) active active ∧
    (after (.headRawEdge 127 .b true) { active with powered := false }).headPins = [(127, .b)] := by decide +kernel

/-- K in a sequence that head A opened, with a filtered edge of the head given due. -/
def kSequence (a b : HeadRec) (second : Option Nat) : State := staged.modSensor .k (fun r => { r with
  phase := .aFirst, first := some 995000, second := second, a := a, b := b })

def onHead : HeadRec := ⟨true, [⟨false, 999990⟩], .running 990000⟩

theorem test_sequences :
    ((after (.filteredEdge .k .a) (staged.modSensor .k (fun r => { r with a := ⟨false, [⟨true, 999990⟩], .stopped⟩ }))).sensor? .k).map
      (fun r => (r.phase, r.first, r.a.timer)) = some (.aFirst, some 999990, .running 999990) ∧
    ((after (.filteredEdge .k .a) (kSequence onHead ⟨false, [], .stopped⟩ none)).sensor? .k).map
      (fun r => (r.phase, r.disturb, r.condition)) = some (.idle, 1, .normal) ∧
    ((after (.filteredEdge .k .a) ((kSequence onHead ⟨false, [], .stopped⟩ none).modSensor .k (fun r =>
      { r with disturb := 2 }))).sensor? .k).map SensorRec.condition = some .disturbed ∧
    (after (.filteredEdge .k .a) ((kSequence onHead ⟨false, [], .stopped⟩ none).modSensor .k (fun r =>
      { r with disturb := 2 }))).holds = ⟨[(.trackingFault, 10000), (.unproven, 10000)], []⟩ ∧
    ((after (.standingTimerExpiry .k .a) (kSequence ⟨true, [], .running 799999⟩ ⟨false, [], .stopped⟩ none)).sensor? .k).map
      SensorRec.condition = some .standing ∧
    gives (.standingTimerExpiry .k .a) (kSequence ⟨true, [], .running 800000⟩ ⟨false, [], .stopped⟩ none)
      (kSequence ⟨true, [], .running 800000⟩ ⟨false, [], .stopped⟩ none).startLines ∧
    ((after (.filteredEdge .k .a) ((kSequence ⟨true, [⟨false, 999990⟩], .expired⟩ ⟨true, [], .running 1⟩ none).modSensor .k
      (fun r => { r with condition := .standing }))).sensor? .k).map SensorRec.condition = some .normal := by decide +kernel

/-- K as given, in the STAGED yard. -/
def kIs (f : SensorRec → SensorRec) : State := staged.modSensor .k f
def kAfter (i : Instr) (s : State) : Option SensorRec := (after i s).sensor? .k
def coming : HeadRec := ⟨false, [⟨true, 999990⟩], .stopped⟩
def going : HeadRec := ⟨true, [⟨false, 999990⟩], .running 990000⟩
def offHead : HeadRec := ⟨false, [], .stopped⟩

/-- Head B opens a sequence, head A follows, B is released last: a RETURN hands on nothing; released by A: a backward pass. A sensor
that settles makes no sequence. -/
theorem test_sequences_of_head_b :
    (kAfter (.filteredEdge .k .b) (kIs (fun r => { r with b := coming }))).map
      (fun r => (r.phase, r.first, r.second, r.b.level)) = some (.bFirst, some 999990, none, true) ∧
    (kAfter (.filteredEdge .k .a) (kIs (fun r => { r with
      phase := .bFirst, first := some 995000, a := coming, b := ⟨true, [], .running 995000⟩ }))).map
      (fun r => (r.phase, r.second)) = some (.bFirst, some 999990) ∧
    (kAfter (.filteredEdge .k .b) (kIs (fun r => { r with
      phase := .bFirst, first := some 995000, second := some 997500, disturb := 2, b := going }))).map
      (fun r => (r.phase, r.disturb, r.first)) = some (.idle, 0, none) ∧
    (after (.filteredEdge .k .b) (kIs (fun r => { r with
      phase := .bFirst, first := some 995000, second := some 997500, b := going }))).cuts = [cut5] ∧
    (after (.filteredEdge .k .a) (kIs (fun r => { r with
      phase := .bFirst, first := some 995000, second := some 997500, a := going }))).crest.lastSpeed = some (some 400) ∧
    (after (.filteredEdge .k .a) (kIs (fun r => { r with
      phase := .bFirst, first := some 995000, second := some 997500, a := going }))).cuts = [cut5] ∧
    (kAfter (.filteredEdge .k .b) (kIs (fun r => { r with settling := true, b := going }))).map
      (fun r => (r.settling, r.phase)) = some (false, .idle) ∧
    (kAfter (.filteredEdge .k .b) (kIs (fun r => { r with settling := true, a := ⟨true, [], .running 1⟩, b := coming }))).map
      (fun r => (r.settling, r.phase)) = some (true, .idle) := by decide +kernel

/-- A disturbance of a STANDING sensor raises its count, at the limit to DISTURBED; a DISTURBED one stays so, whatever expires. -/
theorem test_conditions_of_head_b :
    (kAfter (.filteredEdge .k .b) (kIs (fun r => { r with
      phase := .bFirst, first := some 995000, condition := .standing, b := going }))).map
      (fun r => (r.condition, r.disturb)) = some (.normal, 1) ∧
    gave (after (.filteredEdge .k .b) (kIs (fun r => { r with
      phase := .bFirst, first := some 995000, condition := .standing, disturb := 2, b := { going with timer := .expired } })))
      (.sensorState .k .disturbed .standing 3) ∧
    (kAfter (.filteredEdge .k .b) (kIs (fun r => { r with
      phase := .bFirst, first := some 995000, condition := .disturbed, disturb := 3, b := going }))).map
      (fun r => (r.condition, r.disturb)) = some (.disturbed, 3) ∧
    (kAfter (.standingTimerExpiry .k .b) (kIs (fun r => { r with b := ⟨true, [], .running 799999⟩ }))).map
      (fun r => (r.condition, r.b.timer)) = some (.standing, .expired) ∧
    (kAfter (.standingTimerExpiry .k .b) (kIs (fun r => { r with
      condition := .disturbed, b := ⟨true, [], .running 799999⟩ }))).map SensorRec.condition = some .disturbed ∧
    (kAfter (.filteredEdge .k .b) (kIs (fun r => { r with
      condition := .standing, a := ⟨true, [], .running 1⟩, b := { going with timer := .expired } }))).map
      SensorRec.condition = some .normal ∧
    gives (.filteredEdge .k .b) staged staged.startLines := by decide +kernel

/-- A sequence that ends in STANDING ends that as well, its notice first; DISTURBED stays, and hands its passes on. A head that
goes off while the other stays on with its timer expired leaves STANDING. -/
theorem test_passes_in_every_condition :
    (kAfter (.filteredEdge .k .b) (kIs (fun r => { r with
      phase := .bFirst, first := some 995000, second := some 997500, condition := .standing, disturb := 2, b := going }))).map
      (fun r => (r.condition, r.disturb)) = some (.normal, 0) ∧
    ((after (.filteredEdge .k .b) (kIs (fun r => { r with
      phase := .aFirst, first := some 995000, second := some 997500, condition := .standing, b := going }))).ports.bowl.given.map
      (fun n => n.body)).head? = some (.sensorState .k .normal .standing 0) ∧
    (after (.filteredEdge .k .b) (kIs (fun r => { r with
      phase := .aFirst, first := some 995000, second := some 997500, condition := .disturbed, b := going }))).cuts.map
      CutRec.state = [.forming] ∧
    (kAfter (.filteredEdge .k .b) (kIs (fun r => { r with
      phase := .aFirst, first := some 995000, second := some 997500, condition := .disturbed, disturb := 3, b := going }))).map
      (fun r => (r.condition, r.disturb)) = some (.disturbed, 0) ∧
    (kAfter (.filteredEdge .k .b) (kIs (fun r => { r with
      phase := .aFirst, first := some 995000, condition := .standing, a := ⟨true, [], .expired⟩, b := going }))).map
      SensorRec.condition = some .standing ∧
    (kAfter (.filteredEdge .k .b) (kIs (fun r => { r with
      phase := .aFirst, first := some 995000, condition := .standing, a := ⟨true, [], .expired⟩, b := coming }))).map
      (fun r => (r.condition, r.second)) = some (.standing, some 999990) := by decide +kernel

/-- A forward pass at K over 100 mm in 25 ms: R30's 400 cm/s. -/
def atK : State := kSequence ⟨false, [], .stopped⟩ onHead (some 997500)

theorem test_release :
    atK.Settled ∧ atK.layout.root? = some 1 ∧ atK.staged? = some cut5 ∧ passSpeed 100 2500 = some 400 ∧
    (after (.filteredEdge .k .b) atK).crest = ⟨.forming, some (.cut ⟨5, 0⟩), 2, 0, some 9975, some (some 400), none⟩ ∧
    gave (after (.filteredEdge .k .b) atK) (.cutReleased ⟨5, 0⟩ 3 1 .asPlanned .normal false none (some 400) 9975) ∧
    ((after (.filteredEdge .k .b) atK).sectionAt? 1).map SectionRec.occ = some [⟨.cut ⟨5, 0⟩, 1⟩] ∧
    ((after (.filteredEdge .k .b) atK).cuts.map (fun r => (r.state, r.counted, r.frontier))) = [(.forming, 1, some 1)] ∧
    ((after (.filteredEdge .k .b) { atK with cuts := [{ cut5 with cls := .restricted }] }).holds.has .trackingFault) := by
  decide +kernel

/-- The second axle of cut 5 into T1 over P2-N. -/
def atP2N : State :=
  (({ rolling with sections := rolling.sections.map (fun r => if r.point = 2 then
      { r with occ := [⟨.cut ⟨5, 0⟩, 2⟩], exits := [⟨⟨5, 0⟩, .n⟩] } else r) } : State).modSensor (.out 2 .n) (fun r => { r with
    phase := .aFirst, first := some 995000, second := some 997500, a := ⟨false, [], .stopped⟩, b := ⟨true, [⟨false, 999000⟩], .running 990000⟩ })).modTrack 1
      (fun r => { r with fill := 19 })

theorem test_forward_axle :
    atP2N.Settled ∧ atP2N.layout.targetOf ⟨2, .n⟩ = some (.track 1) ∧
    ((after (.filteredEdge (.out 2 .n) .b) atP2N).sectionAt? 2).map SectionRec.occ = some [⟨.cut ⟨5, 0⟩, 1⟩] ∧
    ((after (.filteredEdge (.out 2 .n) .b) atP2N).track? 1).map (fun r => (r.fill, r.state, r.lastArrived)) =
      some (20, .full, some ⟨5, 0⟩) ∧
    (after (.filteredEdge (.out 2 .n) .b) atP2N).cuts.map CutRec.arrived = [1] := by decide +kernel

/-! ### Passes at K and in the tree -/

def fwd (x : Sensor) (time : YardTime) : Pass := ⟨x, .forward, some 200, time⟩
def bwd (x : Sensor) (time : YardTime) : Pass := ⟨x, .backward, some 200, time⟩

/-- Cut 5 FORMING, its last axle at K at 8000 and 200 cm/s: an axle at 9250 is 250 cm behind it, the distance of separation. -/
def formingAt (c : CutRec → CutRec) : State :=
  { forming with
    cuts := forming.cuts.map c, crest := { forming.crest with lastTime := some 8000, lastSpeed := some (some 200) } }

theorem test_count_down_and_fragment :
    ((formingAt id).takePass (fwd .k 9249)).crest = ⟨.forming, some (.cut ⟨5, 0⟩), 1, 0, some 9249, some (some 200), none⟩ ∧
    (({ formingAt id with crest := { (formingAt id).crest with countdown := 1 } } : State).takePass (fwd .k 9250)).crest =
      ⟨.separating, some (.cut ⟨5, 0⟩), 0, 0, some 9250, some (some 200), some 11250⟩ ∧
    ((formingAt id).takePass (fwd .k 9250)).cuts.map (fun r => (r.id, r.state, r.expected, r.counted)) =
      [(⟨5, 0⟩, .rolling, 3, 1), (⟨5, 1⟩, .forming, 2, 1)] ∧
    gave ((formingAt id).takePass (fwd .k 9250)) (.cutFragment ⟨5, 0⟩ 1 ⟨5, 1⟩ 2 1 250) ∧
    ((formingAt (fun r => { r with counted := 0 })).takePass (fwd .k 9250)).cuts.length = 1 := by decide +kernel

theorem test_no_fragment_and_runs :
    ({ formingAt id with demands := [⟨1, List.replicate 255 ⟨⟨9, 0⟩, .n, none⟩⟩] } : State).poolFree = 1 ∧
    gave (({ formingAt id with demands := [⟨1, List.replicate 255 ⟨⟨9, 0⟩, .n, none⟩⟩] } : State).takePass (fwd .k 9250))
      (.trackingFault (.unidentifiedAxle .k .forward none (some .noRoom) (some (⟨5, 0⟩, 2)))) ∧
    gave (({ formingAt (fun r => { r with id := ⟨5, 3⟩ }) with crest := { (formingAt id).crest with
        current := some (.cut ⟨5, 3⟩) } } : State).takePass (fwd .k 9250))
      (.trackingFault (.unidentifiedAxle .k .forward none (some .fragmentLimit) (some (⟨5, 3⟩, 2)))) ∧
    (active.takePass (fwd .k 9250)).crest =
      ⟨.separating, some .unidentified, 0, 0, some 9250, some (some 200), some 11250⟩ ∧
    ((active.takePass (fwd .k 9250)).sectionAt? 1).map SectionRec.occ = some [⟨.unidentified, 1⟩] ∧
    (({ active with crest := ⟨.forming, some .unidentified, 2, 0, some 8000, some (some 200), none⟩ } : State).takePass
      (fwd .k 9249)).crest.countdown = 1 ∧
    (({ active with crest := ⟨.forming, some .unidentified, 2, 0, some 8000, some (some 200), none⟩ } : State).takePass
      (fwd .k 9250)).crest.phase = .separating ∧
    (({ staged with crest := ⟨.forming, some .unidentified, 2, 0, some 8000, some (some 200), none⟩ } : State).takePass
      (fwd .k 9250)).crest.current = some (.cut ⟨5, 0⟩) := by decide +kernel

/-- The crest SEPARATING cut 5, with cut 6 of the given length STAGED behind it. -/
def merging (axles : Nat) : State :=
  { separating (.cut ⟨5, 0⟩) 20000 with
    cuts := forming.cuts ++ [{ cut5 with id := ⟨6, 0⟩, cls := .restricted, expected := axles }] }

theorem test_merge_and_overlength :
    ((merging 381).takePass (fwd .k 9250)).cuts.map (fun r => (r.id, r.expected, r.merged, r.counted)) =
      [(⟨5, 0⟩, 384, [6], 2)] ∧
    ((merging 381).takePass (fwd .k 9250)).crest.countdown = 380 ∧
    gave ((merging 381).takePass (fwd .k 9250)) (.cutMerged ⟨5, 0⟩ (some 6) (some 1) 384 1 true) ∧
    ((merging 382).takePass (fwd .k 9250)).cuts.map (fun r => (r.id, r.expected, r.counted)) =
      [(⟨5, 0⟩, 4, 2), (⟨6, 0⟩, 382, 0)] ∧
    ((merging 382).takePass (fwd .k 9250)).crest.overlength = 1 ∧
    gave (({ merging 2 with cuts := forming.cuts.map (fun r => { r with expected := 384 }) } : State).takePass (fwd .k 9250))
      (.trackingFault (.unidentifiedAxle .k .forward none (some .overlengthLimit) none)) := by decide +kernel

/-- Backward axles at K: of the current cut, of an earlier one, of none; a cut with no axles left is STAGED again, or in DRAINING
back in the list. -/
theorem test_backward_at_k :
    ((formingAt (fun r => { r with counted := 2, held := 2 })).takePass (bwd .k 9000)).crest.countdown = 3 ∧
    (forming.crestBackward .unidentified (bwd .k 9000)).cuts = forming.cuts ∧
    (({ rolling with sections := forming.sections } : State).takePass (bwd .k 9000)).cuts.map (fun r => (r.counted, r.held)) =
      [(2, 2)] ∧
    (forming.takePass (bwd .k 9000)).cuts = [cut5] ∧ (forming.takePass (bwd .k 9000)).crest = Crest.idle ∧
    (forming.takePass (bwd .k 9000)).demands = staged.demands ∧
    gave (forming.takePass (bwd .k 9000)) (.cutStaged ⟨5, 0⟩ .staged 3 1 .normal none .planning (some (1, .asPlanned, 2))) ∧
    (({ forming with mode := .draining } : State).takePass (bwd .k 9000)).planned = orders ∧
    (({ forming with mode := .draining } : State).takePass (bwd .k 9000)).cuts = [] ∧
    (({ forming with crest := { forming.crest with current := some .unidentified, countdown := 383 } } : State).crestBackward
      .unidentified (bwd .k 9000)).crest.countdown = 383 := by decide +kernel

/-- P1's section with the list given. -/
def listed (l : List OccEntry) : State := active.modSection 1 (fun r => { r with occ := l })
def occOf (s : State) (n : Nat) : List OccEntry := ((s.sectionAt? n).map SectionRec.occ).getD []
def cutN (n : Nat) : Occupant := .cut ⟨n, 0⟩
def eight : List OccEntry := (List.range 8).map (fun n => ⟨cutN (n + 10), 1⟩)

theorem test_lists :
    occOf ((listed [⟨cutN 5, 1⟩, ⟨cutN 6, 2⟩]).leaveSection 1 (fwd .k 0)).1 1 = [⟨cutN 6, 2⟩] ∧
    occOf ((listed [⟨cutN 5, 1⟩, ⟨cutN 6, 2⟩]).leaveSection 1 (bwd .k 0)).1 1 = [⟨cutN 5, 1⟩, ⟨cutN 6, 1⟩] ∧
    ((listed []).leaveSection 1 (fwd (.out 1 .n) 0)).2.1 = .unidentified ∧
    occOf ((listed [⟨cutN 5, 1⟩]).joinSection 1 (cutN 5) .tail .k).1 1 = [⟨cutN 5, 2⟩] ∧
    occOf ((listed [⟨cutN 5, 1⟩, ⟨cutN 7, 1⟩]).joinSection 1 (cutN 6) .tail .k).1 1 = [⟨cutN 5, 1⟩, ⟨cutN 6, 1⟩, ⟨cutN 7, 1⟩] ∧
    occOf ((listed [⟨cutN 5, 1⟩, ⟨.unidentified, 1⟩]).joinSection 1 (cutN 6) .tail .k).1 1 =
      [⟨cutN 5, 1⟩, ⟨.unidentified, 1⟩, ⟨cutN 6, 1⟩] ∧
    occOf ((listed [⟨cutN 5, 1⟩, ⟨.unidentified, 1⟩]).joinSection 1 (cutN 6) .cutOrder .k).1 1 =
      [⟨cutN 5, 1⟩, ⟨cutN 6, 1⟩, ⟨.unidentified, 1⟩] ∧
    occOf ((listed [⟨cutN 5, 1⟩, ⟨.unidentified, 1⟩]).joinSection 1 .unidentified .tail .k).1 1 =
      [⟨cutN 5, 1⟩, ⟨.unidentified, 2⟩] ∧
    occOf ((listed [⟨cutN 5, 1⟩]).joinSection 1 .unidentified .head .k).1 1 = [⟨.unidentified, 1⟩, ⟨cutN 5, 1⟩] ∧
    ((listed eight).joinSection 1 (cutN 5) .tail .k).2 = [.less ⟨5, 0⟩, .more ⟨17, 0⟩] ∧
    gave ((listed eight).joinSection 1 (cutN 5) .tail .k).1 (.trackingFault (.crowded .k 1 (cutN 5) (cutN 17))) := by
  decide +kernel

/-- P1's section with the list and the dwell state given, cut 5 ROLLING and stalled, STALL present. -/
def dwells (l : List OccEntry) (d : Dwell) : State :=
  { rolling with
    relay := false, holds := ⟨[(.stall, 5)], []⟩, cuts := rolling.cuts.map (fun r => { r with stalled := true }),
    sections := rolling.sections.map (fun r => if r.point = 1 then { r with occ := l, dwell := d } else r) }
def dwellOf (s : State) : Option Dwell := (s.sectionAt? 1).map SectionRec.dwell

/-- R58, R60: the timer starts, starts again, stands and stops; a stall ends by a pass of the stalled cut or a new head. -/
theorem test_dwell_by_passes :
    dwellOf ((dwells [] .stopped).joinSection 1 (cutN 5) .tail .k).1 = some (.running 10000) ∧
    dwellOf ((dwells [⟨cutN 5, 1⟩] (.running 7)).joinSection 1 (cutN 5) .tail .k).1 = some (.running 10000) ∧
    dwellOf ((dwells [⟨cutN 5, 1⟩] (.running 7)).joinSection 1 (cutN 6) .tail .k).1 = some (.running 7) ∧
    dwellOf ((dwells [⟨cutN 5, 1⟩, ⟨cutN 6, 1⟩] (.running 7)).leaveSection 1 (bwd .k 0)).1 = some (.running 7) ∧
    dwellOf ((dwells [⟨cutN 5, 1⟩] (.running 7)).leaveSection 1 (fwd (.out 1 .n) 0)).1 = some .stopped ∧
    ((dwells [⟨cutN 5, 1⟩] (.running 7)).leaveSection 1 (fwd (.out 1 .n) 0)).2.2 = true ∧
    ((dwells [⟨cutN 5, 2⟩] (.expired 7)).leaveSection 1 (fwd (.out 1 .n) 0)).1.cuts.map CutRec.stalled = [false] ∧
    ((dwells [⟨cutN 5, 2⟩] (.expired 7)).leaveSection 1 (fwd (.out 1 .n) 0)).1.holdInbox =
      [⟨.block .zoneTracker, .clear .stall⟩] ∧
    gave ((dwells [⟨cutN 5, 2⟩] (.expired 7)).leaveSection 1 (fwd (.out 1 .n) 0)).1 (.cutMoving 1 (cutN 5) .pass) ∧
    gave ((dwells [⟨cutN 5, 2⟩] (.expired 7)).joinSection 1 .unidentified .head .k).1 (.cutMoving 1 (cutN 5) .headChanged) ∧
    ((dwells [⟨cutN 5, 2⟩] (.expired 7)).joinSection 1 (cutN 6) .tail .k).1.cuts.map CutRec.stalled = [true] := by
  decide +kernel

/-- Seven cuts behind the head of a crowded list. -/
def seven : List OccEntry := (List.range 7).map (fun n => ⟨cutN (n + 10), 1⟩)

/-- R44, R58 (log entry 26): an axle that crowds a section is a pass of the tail entry's occupant at the dwell timer. -/
theorem test_crowded_dwell :
    dwellOf ((dwells (⟨.unidentified, 1⟩ :: seven.dropLast ++ [⟨.unidentified, 1⟩]) (.running 7)).joinSection 1 (cutN 5)
      .tail .k).1 = some (.running 10000) ∧
    gave ((dwells (⟨.unidentified, 1⟩ :: seven.dropLast ++ [⟨.unidentified, 1⟩]) (.expired 7)).joinSection 1 (cutN 5)
      .tail .k).1 (.cutMoving 1 .unidentified .pass) ∧
    dwellOf ((dwells (⟨.unidentified, 1⟩ :: seven) (.running 7)).joinSection 1 .unidentified .tail .k).1 = some (.running 7) := by
  decide +kernel

/-- P1's section holds cut 5, whose exit register there is as given; the head leaves by P1-N into P2's section. -/
def leaving (exits : List ExitItem) : State :=
  { rolling with sections := rolling.sections.map (fun r => if r.point = 1 then
      { r with occ := [⟨cutN 5, 3⟩], exits := exits } else r), cuts := rolling.cuts.map (fun r => { r with frontier := some 1 }) }

theorem test_outlet_passes :
    occOf ((leaving []).takePass (fwd (.out 1 .n) 9000)) 2 = [⟨cutN 5, 1⟩] ∧
    ((leaving []).takePass (fwd (.out 1 .n) 9000)).cuts.map CutRec.frontier = [some 2] ∧
    ((leaving [⟨⟨5, 0⟩, .n⟩]).takePass (fwd (.out 1 .n) 9000)).cuts.map CutRec.frontier = [some 1] ∧
    occOf ((leaving [⟨⟨5, 0⟩, .r⟩]).takePass (fwd (.out 1 .n) 9000)) 2 = [⟨.unidentified, 1⟩] ∧
    ((leaving [⟨⟨5, 0⟩, .r⟩]).takePass (fwd (.out 1 .n) 9000)).cuts.map CutRec.held = [2] ∧
    occOf ((listed []).modSection 2 (fun r => { r with occ := [⟨cutN 5, 1⟩] }) |>.takePass (bwd (.out 1 .n) 9000)) 1 =
      [⟨cutN 5, 1⟩] := by decide +kernel

/-- P2's section holds the list given, its outlet N leading into T1; cut 5 is ROLLING. -/
def intoT1 (l : List OccEntry) : State :=
  { rolling with
    cuts := rolling.cuts.map (fun r => { r with frontier := some 2 }),
    sections := rolling.sections.map (fun r => { r with occ := if r.point = 2 then l else [] }) }

/-- R48, R49: the head pass into the track is dealt with before the arrived axle; an UNIDENTIFIED axle counts as fill alone. -/
theorem test_into_a_track :
    ((intoT1 [⟨cutN 5, 3⟩]).takePass (fwd (.out 2 .n) 9000)).cuts.map (fun r => (r.frontier, r.arrived)) = [(none, 1)] ∧
    (((intoT1 [⟨cutN 5, 3⟩]).takePass (fwd (.out 2 .n) 9000)).track? 1).map (fun k => (k.fill, k.lastArrived)) =
      some (1, some ⟨5, 0⟩) ∧
    ((intoT1 [⟨.unidentified, 1⟩]).takePass (fwd (.out 2 .n) 9000)).cuts = (intoT1 []).cuts ∧
    (((intoT1 [⟨.unidentified, 1⟩]).takePass (fwd (.out 2 .n) 9000)).track? 1).map (fun k => (k.fill, k.lastArrived)) =
      some (1, none) ∧
    ((intoT1 [⟨.unidentified, 1⟩]).takePass (fwd (.out 2 .n) 9000)).evalDue = [⟨2, false⟩] := by decide +kernel

/-- Cut 5's one axle makes T1 full and retires the cut: TRACK STATE for AXLE and for ARRIVAL (log entry 53). -/
theorem test_full_and_arrived :
    let s := (intoT1 [⟨cutN 5, 1⟩]).modTrack 1 (fun r => { r with capacity := 1, committed := 1 })
    let t := ({ s with cuts := s.cuts.map (fun r => { r with held := 1 }) } : State).takePass (fwd (.out 2 .n) 9000)
    t.cuts = [] ∧ gave t (.trackState 1 .axle .full .opened 1 1 1 (some 2) none none) ∧
    gave t (.trackState 1 .arrival .full .full 1 1 0 (some 2) (some (⟨5, 0⟩, 1)) none) := by decide +kernel

/-- T1 with 2 axles, of which the last arrived cut 5 holds one; and empty. -/
def arrived : State :=
  ({ rolling with cuts := rolling.cuts.map (fun r => { r with arrived := 1 }) } : State).modTrack 1 (fun r =>
    { r with fill := 2, lastArrived := some ⟨5, 0⟩ })

theorem test_out_of_a_track_and_retirement :
    (arrived.takePass (bwd (.out 2 .n) 9000)).cuts.map CutRec.arrived = [0] ∧
    occOf (arrived.takePass (bwd (.out 2 .n) 9000)) 2 = [⟨cutN 5, 1⟩] ∧
    occOf (active.takePass (bwd (.out 2 .n) 9000)) 2 = [⟨.unidentified, 1⟩] ∧
    gave (active.takePass (bwd (.out 2 .n) 9000)) (.trackingFault (.trackUnderrun (.out 2 .n) 1)) ∧
    (({ rolling with cuts := rolling.cuts.map (fun r => { r with arrived := 3 }) } : State).retireCheck ⟨5, 0⟩).cuts = [] ∧
    (rolling.retireCheck ⟨5, 0⟩).cuts = rolling.cuts := by decide +kernel

/-- P1 THROWING toward R since 9500, with the allowance of the layout: 900 ms. -/
def p1Throwing : State := rolling.modPoint 1 (fun q => { q with state := .throwing .r 9500 })

/-- The run-in test at a toe of 1000 cm: at 1250 cm/s the head has 800 ms, at 1249 cm/s 800 ms and more. -/
theorem test_entry_and_divergence :
    (rolling.entryReport ⟨5, 0⟩ 1 (some .r) none 9600).2 = some .n ∧
    (p1Throwing.entryReport ⟨5, 0⟩ 1 (some .n) none 9600).2 = some .r ∧
    ((p1Throwing.entryReport ⟨5, 0⟩ 1 (some .r) (some 1250) 9600).1.point? 1).map PointRec.runIn = some false ∧
    ((p1Throwing.entryReport ⟨5, 0⟩ 1 (some .r) (some 1252) 9600).1.point? 1).map PointRec.runIn = some true ∧
    ((p1Throwing.entryReport ⟨5, 0⟩ 1 none none 9600).1.point? 1).map PointRec.runIn = some true ∧
    ((rolling.divergenceReport ⟨5, 0⟩ 1 .r).point? 1).map PointRec.state = some (.fault .disagreesWithAxles) ∧
    rolling.divergenceReport ⟨5, 0⟩ 1 .n = rolling ∧
    ((p1Throwing.divergenceReport ⟨5, 0⟩ 1 .r).point? 1).map PointRec.runIn = some true := by decide +kernel

def toTrack (d : Nat) : CutRec → CutRec := fun r => { r with path := [⟨1, .n⟩], pathEnd := .opened, dest := d }

/-- Head passes of cut 5: into P1 as it lies, into P1 when it needs R, into its track, below an OPEN path's end into another track,
and by the other outlet. -/
theorem test_head_passes :
    ((staged.headPass ⟨5, 0⟩ (fwd .k 9000) none (.point 1)).cuts.map CutRec.frontier) = [some 1] ∧
    (staged.headPass ⟨5, 0⟩ (fwd .k 9000) none (.point 1)).demandCount ⟨5, 0⟩ = 1 ∧
    (({ staged with cuts := [{ cut5 with state := .forming, path := [⟨1, .r⟩] }] } : State).headPass ⟨5, 0⟩ (fwd .k 9000) none
      (.point 1)).cuts.map (fun r => (r.dest, r.status, r.path)) = [(2, .diverted, [⟨1, .n⟩, ⟨2, .r⟩])] ∧
    (rolling.headPass ⟨5, 0⟩ (fwd (.out 2 .n) 9000) (some ⟨2, .n⟩) (.track 1)).cuts.map CutRec.frontier = [none] ∧
    (({ rolling with cuts := rolling.cuts.map (toTrack 1) } : State).headPass ⟨5, 0⟩ (fwd (.out 2 .r) 9000) (some ⟨2, .r⟩)
      (.track 2)).cuts.map (fun r => (r.dest, r.status)) = [(2, .diverted)] ∧
    gave (rolling.headPass ⟨5, 0⟩ (fwd (.out 1 .r) 9000) (some ⟨1, .r⟩) (.track 3))
      (.cutDiverted ⟨5, 0⟩ .diverged (some ⟨1, .r⟩) 1 3 .diverted 1 .track) ∧
    ((rolling.headPass ⟨5, 0⟩ (fwd (.out 1 .r) 9000) (some ⟨1, .r⟩) (.track 3)).point? 1).map PointRec.state =
      some (.fault .disagreesWithAxles) := by decide +kernel

/-- R107: below an OPEN path's end the head enters P2, and then its destination. -/
theorem test_below_an_open_path :
    (({ rolling with cuts := rolling.cuts.map (fun r => { toTrack 1 r with frontier := some 1 }) } : State).headPass ⟨5, 0⟩
      (fwd (.out 1 .n) 9000) (some ⟨1, .n⟩) (.point 2)).cuts.map (fun r => (r.frontier, r.dest, r.status)) =
      [(some 1, 1, .asPlanned)] ∧
    (({ rolling with cuts := rolling.cuts.map (fun r => { toTrack 1 r with frontier := some 1 }) } : State).headPass ⟨5, 0⟩
      (fwd (.out 2 .n) 9000) (some ⟨2, .n⟩) (.track 1)).cuts.map (fun r => (r.frontier, r.dest, r.status)) =
      [(none, 1, .asPlanned)] := by decide +kernel

/-- Cut 6 is STAGED while cut 5 has its one axle in P1's section. -/
def cut6 : CutRec := { cut5 with id := ⟨6, 0⟩, expected := 2 }
def behind : State := { forming with planned := [], cuts := forming.cuts ++ [cut6] }

/-- R96: the record STAGED behind is un-staged first; with the pool short the returned cut goes back too; with its destination
closed it is re-planned. -/
theorem test_return_to_staged :
    behind.crestBackward (cutN 5) (bwd .k 9000) = (behind.unstage cut6).crestBackward (cutN 5) (bwd .k 9000) ∧
    (behind.takePass (bwd .k 9000)).cuts = [cut5] ∧
    (behind.takePass (bwd .k 9000)).planned = [⟨6, 2, 1, .normal, none, .planning⟩] ∧
    ({ forming with demands := [⟨1, List.replicate 256 ⟨⟨9, 0⟩, .n, none⟩⟩] } : State).poolFree = 0 ∧
    (({ forming with demands := [⟨1, List.replicate 256 ⟨⟨9, 0⟩, .n, none⟩⟩] } : State).crestBackward (cutN 5)
      (bwd .k 9000)).cuts = [] ∧
    (({ forming with demands := [⟨1, List.replicate 256 ⟨⟨9, 0⟩, .n, none⟩⟩] } : State).crestBackward (cutN 5)
      (bwd .k 9000)).stagedLeftDue = true ∧
    ((forming.modTrack 1 (fun k => { k with state := .closing })).crestBackward (cutN 5) (bwd .k 9000)).cuts =
      [{ cut5 with dest := 2, status := .alternate, path := [⟨1, .n⟩, ⟨2, .r⟩] }] ∧
    ((forming.modTrack 1 (fun k => { k with state := .closing, alternate := none })).crestBackward (cutN 5)
      (bwd .k 9000)).planned = ⟨5, 3, 1, .normal, none, .planning⟩ :: forming.planned := by decide +kernel

/-! ### What the rules order -/

/-- R57: the held axles lost retire the cut before CUT MOVING is given. R186: a held working request waits for the urgent frame
that may be taken. R62: PROVEN is 0 on the wire. R72, R75: one attempt for one event; a freeing that a re-plan brings is heard. -/
theorem test_orders :
    (((({ stalled with cuts := [{ cut5 with state := .rolling, counted := 1, held := 1 }] } : State).clearOne 1).ports.bowl.given.map
      (fun n => match n.body with
        | .cutArrived .. => 1
        | .cutMoving .. => 2
        | _ => 0)).filter (fun n => n != 0)) = [1, 2] ∧
    (fullPort.ports.crest.ready.isSome) = false ∧
    ({ fullPort.ports.crest with urgent := none } : PortState).ready.isSome ∧
    (after (.withdrawCut .crest 1 (.fits 5)) staged).freedDue = false ∧
    (after (.trackStateReport 1) ({ staged with trackReportDue := [1] }.modTrack 1 (fun r => { r with state := .full }))).freedDue := by
  decide +kernel

end Sys2Proof.Tests
end

section
/-! PROOFS. Layout loads and the mode request STOP HUMPING (R8, R10, R19): O29 and O35. -/

namespace Sys2Proof.Machine

/-! ### A request past the checks of R185 and R17 -/

/-- A request whose role may make it and that SETUP takes is its block's work alone. -/
theorem judge_eq_run {α : Type} (p : Port) (code : Nat) (a : α) (run : α → State → State × Option Reply)
    (hr : roleMay code p = true) (hc : takenInSetup code = true) : judge p code (.fits a) run = run a :=
  funext fun s => judge_fits p code a run s hr (fun _ => hc)

/-- The state after an answer that a request at a ready port queues has served its port. -/
theorem taking_answer (s : State) (p : Port) (cmd : Instr) (tag code : Nat) (r : Reply) :
    ((s.taking p cmd).modPort p (fun q => q.answer tag code r)).startLines = s.served p tag code r := by
  simp [State.taking, State.served, State.modPort, PortState.answer]

/-- A request whose work changes the load alone leaves that change, its port, and the lines that start. -/
theorem request_sets_load (p : Port) (tag code : Nat) (cmd : Instr) (work : State → State × Option Reply) (s : State)
    (l : Load) (r : Reply) (h : s.ready p) (hs : s.Settled)
    (hw : work (s.taking p cmd) = ({ s.taking p cmd with load := l }, some r)) :
    request p tag code cmd work s = .next (({ s with load := l } : State).served p tag code r) := by
  let u : State := (({ s with load := l } : State).taking p cmd).modPort p (fun q => q.answer tag code r)
  have settled : u.Settled := hs
  have closes : u.finish s (some (.request code p)) = u.startLines :=
    (finish_before u s u _ rfl).trans (finish_unchanged u _ settled)
  rw [request_ready p tag code cmd work s h _ r hw, ← taking_answer]
  exact congrArg _ closes

/-- A block's work that refuses is answered with its status, and nothing but the port changes. -/
theorem request_refuses (p : Port) (tag code : Nat) (cmd : Instr) (run : Unit → State → State × Reply) (s : State)
    (st : Status) (h : s.ready p) (hs : s.Settled)
    (hw : run () (s.taking p cmd) = (s.taking p cmd, Reply.plain st)) :
    request p tag code cmd (answered run ()) s = .next (s.served p tag code ⟨st, .nothing⟩) :=
  request_answers p tag code cmd _ s h hs ⟨st, .nothing⟩ (by simp only [answered, hw, Reply.plain])

/-! ### What a request's answer and the end of its event leave of notices and answers -/

theorem gave_answer {s : State} {b : NoticeBody} (h : s.Gave b) (p : Port) (tag code : Nat) (r : Reply) :
    (s.modPort p (fun q => q.answer tag code r)).Gave b := by
  intro x
  by_cases e : x = p
  · subst e
    rw [modPort_ports, PerPort.get_set]
    exact h x
  · rw [modPort_ports, PerPort.get_set_ne _ _ e]
    exact h x

theorem gave_finish {s : State} {b : NoticeBody} (h : s.Gave b) (before : State) (src : Option HoldSource) :
    (s.finish before src).Gave b := by
  intro p
  have now : (s.finish before src).now = s.now := by simp [State.now]
  rw [now]
  exact finish_keeps_given s before src p _ (h p)

/-- The answer to a request whose work has, of the ports, only given notices to them stands when its event ends. -/
theorem answered_of_hears (s u before : State) (p : Port) (cmd : Instr) (tag code : Nat) (r : Reply)
    (src : Option HoldSource) (h : Hears (s.taking p cmd) u) :
    ((u.modPort p (fun q => q.answer tag code r)).finish before src).Answered p tag code r := by
  obtain ⟨l, port⟩ := h p
  have taken : (u.ports.get p).working = some ⟨cmd, true, false⟩ := by
    rw [port]
    simp [State.taking]
  refine finish_answered _ _ _ p tag code r .ordinary ?_
  rw [modPort_ports, PerPort.get_set]
  simp [PortState.answer, taken]

/-- An event that ends outside ACTIVE ends with HUMP PROCEED released (R173). -/
theorem finish_relay_released (s before : State) (src : Option HoldSource) (h : s.mode ≠ .active) :
    (s.finish before src).relay = false := by
  have mode : (s.finish before src).mode ≠ .active := by
    rw [finish_mode]
    split
    · decide
    · exact h
  rw [finish_relay, relayJudgement]
  simp [mode]

/-- A reason whose clear is the last claim of a request is absent at the end of its event (R172). -/
theorem finish_cleared (s before : State) (k : HoldSource) (l : List HoldClaim) (b : HoldSource) (x : HoldReason)
    (h : s.holdInbox = l ++ [⟨b, .clear x⟩]) : (s.finish before (some k)).holds.has x = false := by
  rw [finish_holds _ _ _ (by simp), if_neg (by simp [h]), has_update, h]
  simp [List.foldl_append, applyOp]

/-! ### LAYOUT BEGIN (R8) -/

theorem planEmpty_iff (s : State) : s.planEmpty = true ↔ s.planned = [] ∧ s.cuts = [] := by
  simp [State.planEmpty]

theorem planEmpty_eq_false_iff (s : State) : s.planEmpty = false ↔ s.planned ≠ [] ∨ s.cuts ≠ [] := by
  rw [← Bool.not_eq_true, planEmpty_iff, Decidable.not_and_iff_not_or_not]

theorem layoutBegin_humping (p : Port) (s : State) (h : s.mode = .active ∨ s.mode = .draining) :
    s.layoutBegin p = (s, Reply.plain .wrongMode) := if_pos h

section
variable (p : Port) (s : State) (idle : s.mode = .setup ∨ s.mode = .standby)
include idle

theorem not_humping_of_idle : ¬ (s.mode = .active ∨ s.mode = .draining) := by
  rcases idle with h | h <;> simp [h]

theorem layoutBegin_writing {o : Port} {l : Layout} {n : Nat} (h : s.load = .writing o l n) :
    s.layoutBegin p = (s, Reply.plain .busy) := by
  simp only [State.layoutBegin, if_neg (not_humping_of_idle s idle), h]

/-- LAYOUT BEGIN opens over no load, or over the port's own, when roll list and Cut Table are empty. -/
theorem layoutBegin_opens (h : s.load = .absent ∨ ∃ l, s.load = .opened p l) (he : s.planEmpty = true) :
    s.layoutBegin p = ({ s with load := .opened p Layout.empty }, Reply.done) := by
  rcases h with h | ⟨l, h⟩ <;> simp [State.layoutBegin, not_humping_of_idle s idle, h, he]

theorem layoutBegin_elsewhere {o : Port} {l : Layout} (h : s.load = .opened o l) (ho : o ≠ p) :
    s.layoutBegin p = (s, Reply.plain .conflict) := by
  simp [State.layoutBegin, not_humping_of_idle s idle, h, ho]

theorem layoutBegin_planned (h : s.load = .absent ∨ ∃ o l, s.load = .opened o l) (he : s.planEmpty = false) :
    s.layoutBegin p = (s, Reply.plain .conflict) := by
  rcases h with h | ⟨o, l, h⟩ <;> simp [State.layoutBegin, not_humping_of_idle s idle, h, he]

end

/-! ### LAYOUT ABANDON (R10) -/

theorem layoutAbandon_writing (p : Port) (s : State) {o : Port} {l : Layout} {n : Nat} (h : s.load = .writing o l n) :
    s.layoutAbandon p = (s, Reply.plain .busy) := by
  simp only [State.layoutAbandon, h]

theorem layoutAbandon_not_own (p : Port) (s : State)
    (h : s.load = .absent ∨ ∃ o l, s.load = .opened o l ∧ o ≠ p) :
    s.layoutAbandon p = (s, Reply.plain .conflict) := by
  rcases h with h | ⟨o, l, h, ho⟩
  · simp only [State.layoutAbandon, h]
  · simp only [State.layoutAbandon, h, if_neg ho]

theorem layoutAbandon_own (p : Port) (s : State) {l : Layout} (h : s.load = .opened p l) :
    s.layoutAbandon p = ({ s with load := .absent }, Reply.done) := by
  simp only [State.layoutAbandon, h, if_true]

/-! ### The two requests at a port of the layout roles -/

section
variable (p : Port) (tag : Nat) (s : State) (role : p = .planning ∨ p = .crest)
include role

theorem roleMay_layout : roleMay 24 p = true ∧ roleMay 30 p = true := by
  rcases role with rfl | rfl <;> decide

theorem exec_layoutBegin : exec (.layoutBegin p tag (.fits ())) s =
    request p tag 24 (.layoutBegin p tag (.fits ())) (answered (fun _ => State.layoutBegin p) ()) s :=
  congrArg (fun w => request p tag 24 _ w s) (judge_eq_run p 24 () _ (roleMay_layout p role).1 rfl)

theorem exec_layoutAbandon : exec (.layoutAbandon p tag (.fits ())) s =
    request p tag 30 (.layoutAbandon p tag (.fits ())) (answered (fun _ => State.layoutAbandon p) ()) s :=
  congrArg (fun w => request p tag 30 _ w s) (judge_eq_run p 30 () _ (roleMay_layout p role).2 rfl)

end

/-- Settles O29, by the cases of the load: each request refuses with nothing changed, or sets the load alone. -/
theorem layoutBeginAndAbandon : Obligations.LayoutBeginAndAbandon := by
  intro p tag s ready settled role
  dsimp only
  rw [exec_layoutBegin p tag s role, exec_layoutAbandon p tag s role]
  have begin_refused (st : Status) := request_refuses p tag 24 (.layoutBegin p tag (.fits ()))
    (fun _ => State.layoutBegin p) s st ready settled
  have abandon_refused (st : Status) := request_refuses p tag 30 (.layoutAbandon p tag (.fits ()))
    (fun _ => State.layoutAbandon p) s st ready settled
  refine ⟨fun humping => begin_refused _ (layoutBegin_humping p _ humping),
    fun o l n writing => abandon_refused _ (layoutAbandon_writing p _ writing), fun idle => ⟨?_, ?_, ?_, ?_, ?_⟩,
    fun notOwn => abandon_refused _ (layoutAbandon_not_own p _ notOwn), ?_⟩
  · exact fun o l n writing => begin_refused _ (layoutBegin_writing p _ idle writing)
  · exact fun o l opened other => begin_refused _ (layoutBegin_elsewhere p _ idle opened other)
  · exact fun o l opened planned => begin_refused _
      (layoutBegin_planned p _ idle (.inr ⟨o, l, opened⟩) ((planEmpty_eq_false_iff _).2 planned))
  · exact fun absent planned => begin_refused _
      (layoutBegin_planned p _ idle (.inl absent) ((planEmpty_eq_false_iff _).2 planned))
  · intro free noPlan noCuts
    refine request_sets_load p tag 24 _ _ s _ _ ready settled ?_
    rw [answered, layoutBegin_opens p (s.taking p _) idle free ((planEmpty_iff _).2 ⟨noPlan, noCuts⟩)]
    rfl
  · intro l opened
    refine request_sets_load p tag 30 _ _ s _ _ ready settled ?_
    rw [answered, layoutAbandon_own p (s.taking p _) opened]
    rfl

/-! ### A record that is freed or un-staged (R79, R100) -/

theorem commitFall_frame (s : State) (n : Nat) (arrival : Option (CutId × Nat)) :
    let u := s.commitFall n arrival
    u = { s with tracks := u.tracks, ports := u.ports, trackReportDue := u.trackReportDue } ∧ Hears s u :=
  changeTrack_frame s n _ _ _ _ _

/-- What freeing a record changes: the record and its demands go, its track, its exit registers and the notices follow. -/
theorem freeRecord_frame (s : State) (r : CutRec) (arrival : Option (CutId × Nat)) :
    let t := s.freeRecord r arrival
    t = { s with
      cuts := s.cuts.filter (fun x => x.id != r.id), demands := (s.removeDemands r.id (fun _ => true)).demands,
      sections := t.sections, tracks := t.tracks, ports := t.ports, trackReportDue := t.trackReportDue,
      freedDue := true } ∧ Hears s t := by
  obtain ⟨frame, hears⟩ := commitFall_frame (s.removeDemands r.id (fun _ => true)) r.dest arrival
  unfold State.freeRecord
  generalize State.commitFall _ r.dest arrival = u at frame hears
  dsimp only
  refine ⟨?_, (Hears.of_ports rfl).trans (hears.trans (Hears.of_ports rfl))⟩
  rw [frame]
  rfl

/-- What un-staging a record does: its cut is the head of the list again, the record and its demands are gone, NEXT RESTRICTED is
to be cleared, and CUT STAGED says so (R79). -/
theorem unstage_spec (s : State) (r : CutRec) :
    let t := s.unstage r
    t.planned = returnedEntry r :: s.planned ∧ t.cuts = s.cuts.filter (fun x => x.id != r.id) ∧
    (∀ q ∈ t.demands, ∀ d ∈ q.entries, d.cut ≠ r.id) ∧
    t.holdInbox = s.holdInbox ++ [⟨.block .rollList, .clear .nextRestricted⟩] ∧
    t.Gave (stagedNotice r .returned) ∧ Hears s t := by
  obtain ⟨frame, hears⟩ := freeRecord_frame s r none
  have noDemand := removeDemands_none s r.id
  unfold State.unstage State.removeStaged
  generalize s.freeRecord r none = u at frame hears
  dsimp only
  refine ⟨?_, ?_, ?_, ?_, gave_give _ _, hears.trans ((Hears.of_ports rfl).trans (hears_give _ _))⟩
  · rw [give_planned, State.clear, claim_planned, frame]
  · rw [give_cuts, State.clear, claim_cuts, frame]
  · rw [give_demands, State.clear, claim_demands, frame]
    exact noDemand
  · rw [give_holdInbox, State.clear, claim_holdInbox, frame]

theorem unstageIfStaged_of_none (s : State) (h : s.staged? = none) : s.unstageIfStaged = s := by
  simp only [State.unstageIfStaged, h]

theorem unstageIfStaged_of_some (s : State) (r : CutRec) (h : s.staged? = some r) :
    s.unstageIfStaged = s.unstage r := by
  simp only [State.unstageIfStaged, h]

theorem unstageIfStaged_mode (s : State) : s.unstageIfStaged.mode = s.mode := by
  have same : s.unstageIfStaged.blank.mode = s.blank.mode := by rw [State.blank_unstageIfStaged]
  exact same

theorem hears_unstageIfStaged (s : State) : Hears s s.unstageIfStaged := by
  cases h : s.staged? with
  | none =>
    rw [unstageIfStaged_of_none s h]
    exact Hears.refl s
  | some r =>
    obtain ⟨-, -, -, -, -, hears⟩ := unstage_spec s r
    rwa [unstageIfStaged_of_some s r h]

/-- Un-staging sets no record moving. -/
theorem hasMoving_of_unstageIfStaged (s : State) (h : s.unstageIfStaged.hasMoving = true) : s.hasMoving = true := by
  cases hr : s.staged? with
  | none => rwa [unstageIfStaged_of_none s hr] at h
  | some r =>
    obtain ⟨-, cuts, -⟩ := unstage_spec s r
    rw [unstageIfStaged_of_some s r hr, State.hasMoving, cuts] at h
    obtain ⟨x, hx, moves⟩ := List.any_eq_true.1 h
    exact List.any_eq_true.2 ⟨x, (List.mem_filter.1 hx).1, moves⟩

/-! ### STOP HUMPING (R19) -/

/-- The mode STOP HUMPING leaves ACTIVE for. -/
def State.modeAfterStop (s : State) : Mode := if s.hasMoving then .draining else .standby

theorem modeAfterStop_ne_active (s : State) : s.modeAfterStop ≠ .active := by
  unfold State.modeAfterStop
  split <;> decide

/-- ACTIVE left by STOP HUMPING: the mode after it, and a STAGED record un-staged. -/
def State.stopped (s : State) : State := ({ s with mode := s.modeAfterStop }).unstageIfStaged

theorem stopHumping_stopped (s : State) (h : s.mode = .standby ∨ s.mode = .draining) :
    s.stopHumping = (s, Reply.done) := by
  rcases h with h | h <;> simp only [State.stopHumping, h]

theorem stopHumping_active (s : State) (h : s.mode = .active) :
    s.stopHumping = (s.stopped.give (.mode s.modeAfterStop (some .active) .stop), Reply.done) := by
  simp only [State.stopHumping, h]
  rfl

theorem stopped_mode (s : State) : s.stopped.mode = s.modeAfterStop := unstageIfStaged_mode _

theorem stopped_hears (s : State) : Hears s s.stopped :=
  (Hears.of_ports rfl).trans (hears_unstageIfStaged { s with mode := s.modeAfterStop })

theorem stopped_of_none (s : State) (h : s.staged? = none) : s.stopped = { s with mode := s.modeAfterStop } :=
  unstageIfStaged_of_none _ h

theorem stopped_of_some (s : State) (r : CutRec) (h : s.staged? = some r) :
    s.stopped = ({ s with mode := s.modeAfterStop }).unstage r := unstageIfStaged_of_some _ r h

/-- STOP HUMPING ends in DRAINING when a record moves after it, else in STANDBY: at once, or by the end of DRAINING that closes the
event (R19, R20). -/
theorem finish_mode_of_stop (s u before : State) (src : Option HoldSource) (mode : u.mode = s.modeAfterStop)
    (moving : u.hasMoving = true → s.hasMoving = true) :
    (u.finish before src).mode = if u.hasMoving then .draining else .standby := by
  rw [finish_mode, mode, State.modeAfterStop]
  cases hu : u.hasMoving with
  | true => simp [moving hu]
  | false => cases s.hasMoving <;> simp

/-- What the work of STOP HUMPING in ACTIVE and its answer leave, before the event closes. -/
def State.stopAnswered (s : State) (tag : Nat) : State :=
  (s.stopped.give (.mode s.modeAfterStop (some .active) .stop)).modPort .crest (fun q => q.answer tag 33 Reply.done)

theorem exec_stopHumping_setup (tag : Nat) (s : State) (ready : s.ready .crest) (settled : s.Settled)
    (h : s.mode = .setup) :
    exec (.stopHumping .crest tag (.fits ())) s = .next (s.served .crest tag 33 ⟨.wrongMode, .nothing⟩) :=
  request_answers _ _ _ _ _ s ready settled _ (judge_setup .crest 33 () _ _ rfl h rfl)

/-- Past SETUP, STOP HUMPING is the Layout Store's work. -/
theorem judge_stopHumping (u : State) (h : u.mode ≠ .setup) :
    judge .crest 33 (.fits ()) (answered (fun _ => State.stopHumping)) u =
      (u.stopHumping.1, some u.stopHumping.2) :=
  judge_fits .crest 33 () _ u rfl (fun e => absurd e h)

theorem exec_stopHumping_stopped (tag : Nat) (s : State) (ready : s.ready .crest) (settled : s.Settled)
    (h : s.mode = .standby ∨ s.mode = .draining) :
    exec (.stopHumping .crest tag (.fits ())) s = .next (s.served .crest tag 33 ⟨.done, .nothing⟩) := by
  refine request_answers _ _ _ _ _ s ready settled _ ?_
  have notSetup : (s.taking .crest (.stopHumping .crest tag (.fits ()))).mode ≠ .setup := by
    show s.mode ≠ .setup
    rcases h with h | h <;> simp [h]
  rw [judge_stopHumping _ notSetup, stopHumping_stopped (s.taking .crest _) h]
  rfl

theorem exec_stopHumping_active (tag : Nat) (s : State) (ready : s.ready .crest) (h : s.mode = .active) :
    exec (.stopHumping .crest tag (.fits ())) s =
      .next (((s.taking .crest (.stopHumping .crest tag (.fits ()))).stopAnswered tag).finish s
        (some (.request 33 .crest))) := by
  refine request_ready .crest tag 33 _ _ s ready _ Reply.done ?_
  have active : (s.taking .crest (.stopHumping .crest tag (.fits ()))).mode = .active := h
  rw [judge_stopHumping _ (by rw [active]; decide), stopHumping_active _ active]

/-- STOP HUMPING in ACTIVE releases HUMP PROCEED (R19, R173). -/
theorem finish_stop_relay (tag : Nat) (s before : State) (src : Option HoldSource) :
    ((s.stopAnswered tag).finish before src).relay = false := by
  refine finish_relay_released _ before src ?_
  show s.stopped.mode ≠ .active
  rw [stopped_mode]
  exact modeAfterStop_ne_active s

/-- With no STAGED record STOP HUMPING changes mode, relay and ports alone. -/
theorem finish_stop_of_none (tag : Nat) (cmd : Instr) (s : State) (src : Option HoldSource) (settled : s.Settled)
    (noStaged : s.staged? = none) :
    let t := ((s.taking .crest cmd).stopAnswered tag).finish s src
    t = { s with mode := t.mode, relay := false, ports := t.ports } := by
  let v := (s.taking .crest cmd).stopAnswered tag
  obtain ⟨inbox, -, -⟩ := settled
  have frame : v = { s with mode := v.mode, ports := v.ports } := by
    simp only [v, State.stopAnswered, stopped_of_none (s.taking .crest cmd) noStaged]
    rfl
  have holds : (v.finish s src).holds = s.holds := by
    have noClaim : v.holdInbox = [] := by rw [frame]; exact inbox
    rw [finish_holds _ _ _ (fun _ => ⟨.block .rollList, by simp [noClaim]⟩), noClaim, frame]
    rfl
  have evalDue : (v.finish s src).evalDue = s.evalDue := by
    rw [finish_evalDue, frame]
    simp [State.headOf, State.queueOf]
  have relay : (v.finish s src).relay = false := finish_stop_relay tag _ s src
  show v.finish s src = _
  refine (finish_frame v s src).trans ?_
  rw [holds, evalDue, relay, ← inbox]
  generalize v.finish s src = t
  rw [frame]

/-- With a STAGED record STOP HUMPING un-stages it (R19, R79). -/
theorem finish_stop_of_some (tag : Nat) (cmd : Instr) (s : State) (k : HoldSource) (r : CutRec)
    (staged : s.staged? = some r) :
    let t := ((s.taking .crest cmd).stopAnswered tag).finish s (some k)
    t.planned = returnedEntry r :: s.planned ∧ t.cuts = s.cuts.filter (fun x => x.id != r.id) ∧
    t.holds.has .nextRestricted = false ∧ (∀ q ∈ t.demands, ∀ d ∈ q.entries, d.cut ≠ r.id) ∧
    t.Gave (stagedNotice r .returned) := by
  let w := s.taking .crest cmd
  obtain ⟨planned, cuts, demands, claims, gave, -⟩ := unstage_spec { w with mode := w.modeAfterStop } r
  have e : w.stopped = _ := stopped_of_some w r staged
  rw [← e] at planned cuts demands claims gave
  dsimp only
  rw [finish_planned, finish_cuts, finish_demands]
  exact ⟨planned, cuts, finish_cleared _ s k _ _ _ claims, demands,
    gave_finish (gave_answer (gave_of_hears gave (hears_give _ _) rfl) _ _ _ _) _ _⟩

/-- Settles O35, by the mode; in ACTIVE, by whether a record is STAGED. -/
theorem stopHumpingReleasesTheHump : Obligations.StopHumpingReleasesTheHump := by
  intro tag s ready settled
  refine ⟨exec_stopHumping_setup tag s ready settled, exec_stopHumping_stopped tag s ready settled, fun active =>
    ⟨_, exec_stopHumping_active tag s ready active, ?_, ?_, ?_, ?_, ?_, ?_⟩⟩
  · rw [finish_cuts]
    exact finish_mode_of_stop s _ _ _ (stopped_mode _) (hasMoving_of_unstageIfStaged _)
  · exact finish_stop_relay tag _ s _
  · exact answered_of_hears s _ _ _ _ _ _ _ _ ((stopped_hears _).trans (hears_give _ _))
  · exact gave_finish (gave_answer (gave_give _ _) _ _ _ _) _ _
  · exact finish_stop_of_none tag _ s _ settled
  · exact fun r staged => finish_stop_of_some tag _ s _ r staged

end Sys2Proof.Machine
end

section
/-! PROOFS. ACCEPT NEXT and the clearing of one hold reason (R77, R172): O40. -/

namespace Sys2Proof.Machine

/-! ### The hold set after one clear (R171, R172) -/

/-- An update gives a reason it leaves present the time it had, or else the time of the update (R172). -/
theorem timeOf_update (h : HoldSet) (now : YardTime) (ops : List HoldOp) (x : HoldReason) :
    (h.update now ops).timeOf x = if (h.update now ops).has x then some ((h.timeOf x).getD now) else none := by
  rw [has_update]
  unfold HoldSet.timeOf HoldSet.update
  dsimp only
  rw [find_filterMap_key (fun r => (ops.foldl applyOp (h.present.map (fun e => e.1), h.urgent)).1.contains r)
    (fun r => (h.timeOf r).getD now)]
  have listed : x ∈ allReasons := by cases x <;> decide
  simp only [listed, true_and]
  split <;> rfl

theorem has_eq_contains (h : HoldSet) (x : HoldReason) : h.has x = (h.present.map (fun e => e.1)).contains x := by
  rw [Bool.eq_iff_iff]
  simp [HoldSet.has, HoldSet.timeOf]

theorem has_clear (h : HoldSet) (now : YardTime) (r x : HoldReason) :
    (h.update now [.clear r]).has x = (h.has x && x != r) := by
  rw [has_update, has_eq_contains, Bool.eq_iff_iff]
  simp [applyOp]

theorem timeOf_clear_self (h : HoldSet) (now : YardTime) (r : HoldReason) : (h.update now [.clear r]).timeOf r = none := by
  rw [timeOf_update, has_clear]
  simp

/-- A clear leaves every other reason present or absent as it was, with its time. -/
theorem timeOf_clear_ne (h : HoldSet) (now : YardTime) {r x : HoldReason} (ne : x ≠ r) :
    (h.update now [.clear r]).timeOf x = h.timeOf x := by
  rw [timeOf_update, has_clear, HoldSet.has]
  cases h.timeOf x <;> simp [ne]

theorem urgent_clear_ne (h : HoldSet) (now : YardTime) {r : HoldReason} (ne : r ≠ .urgent) :
    (h.update now [.clear r]).urgent = h.urgent := if_neg ne

/-! ### The end of an event that leaves the demands alone -/

/-- Closing an event that changed no demand and left DRAINING its work changes the Hold Unit and the ports alone (R20, R103). -/
theorem finish_holds_and_ports (u before : State) (src : Option HoldSource) (demands : u.demands = before.demands)
    (moves : u.mode = .draining → u.hasMoving = true) :
    let t := u.finish before src
    t = { u with holds := t.holds, relay := t.relay, holdInbox := [], ports := t.ports } := by
  have evalDue : (u.finish before src).evalDue = u.evalDue := by
    rw [finish_evalDue]
    simp [State.headOf, State.queueOf, demands]
  have frame := finish_frame u before src
  rw [finish_mode_kept u before src moves, evalDue] at frame
  exact frame

/-- The one claim of a request, a clear, is its update of the set (R172). -/
theorem finish_holds_of_clear (u before : State) (k b : HoldSource) (r : HoldReason)
    (claims : u.holdInbox = [⟨b, .clear r⟩]) :
    (u.finish before (some k)).holds = u.holds.update u.now [.clear r] := by
  rw [finish_holds _ _ _ (by simp), claims]
  rfl

/-- Changing a record without its state sets none moving and stops none. -/
theorem hasMoving_modCut (s : State) (c : CutId) (f : CutRec → CutRec) (same : ∀ x, (f x).state = x.state) :
    (s.modCut c f).hasMoving = s.hasMoving := by
  unfold State.hasMoving
  rw [modCut_cuts, List.any_map]
  congr 1
  funext x
  simp only [Function.comp_apply]
  split <;> simp [same]

/-! ### The Roll List's work on ACCEPT NEXT (R77) -/

/-- The STAGED record accepted, with the clear of NEXT RESTRICTED it brings. -/
def State.accepting (s : State) (r : CutRec) : State :=
  (s.modCut r.id (fun x => { x with accepted := true })).clear .rollList .nextRestricted

theorem acceptNext_none (n : Nat) (s : State) (staged : s.staged? = none) :
    s.acceptNext n = (s, ⟨.noSuch, .nothing⟩) := by
  simp only [State.acceptNext, staged, Reply.plain]

section
variable (n : Nat) (s : State) (r : CutRec) (staged : s.staged? = some r)
include staged

theorem acceptNext_other_roll (other : r.id.roll ≠ n) : s.acceptNext n = (s, ⟨.conflict, .roll r.id.roll⟩) := by
  simp only [State.acceptNext, staged, if_pos other]

theorem acceptNext_normal (own : r.id.roll = n) (normal : r.cls = .normal) :
    s.acceptNext n = (s, ⟨.conflict, .nothing⟩) := by
  simp [State.acceptNext, staged, own, normal, Reply.plain]

theorem acceptNext_again (own : r.id.roll = n) (restricted : r.cls ≠ .normal) (accepted : r.accepted = true) :
    s.acceptNext n = (s, ⟨.done, .nothing⟩) := by
  simp [State.acceptNext, staged, own, restricted, accepted, Reply.done, Reply.plain]

theorem acceptNext_accepts (own : r.id.roll = n) (restricted : r.cls ≠ .normal) (unaccepted : ¬ r.accepted = true) :
    s.acceptNext n = (s.accepting r, ⟨.done, .nothing⟩) := by
  simp [State.acceptNext, State.accepting, staged, own, restricted, unaccepted, Reply.done, Reply.plain]

end

/-! ### ACCEPT NEXT at its port (R17, R183 to R185) -/

/-- What the work of an accepting ACCEPT NEXT and its answer leave, before the event closes. -/
def State.acceptAnswered (s : State) (tag n : Nat) (r : CutRec) : State :=
  ((s.taking .crest (.acceptNext .crest tag (.fits n))).accepting r).modPort .crest
    (fun q => q.answer tag 36 ⟨.done, .nothing⟩)

theorem exec_acceptNext (p : Port) (tag : Nat) (f : Fields Nat) (s : State) :
    exec (.acceptNext p tag f) s =
      request p tag 36 (.acceptNext p tag f) (judge p 36 f (answered State.acceptNext)) s := rfl

theorem roleMay_acceptNext (p : Port) : roleMay 36 p = (p == .crest) := rfl

theorem exec_acceptNext_denied (p : Port) (tag : Nat) (f : Fields Nat) (s : State) (ready : s.ready p)
    (settled : s.Settled) (other : p ≠ .crest) :
    exec (.acceptNext p tag f) s = .next (s.served p tag 36 ⟨.denied, .nothing⟩) := by
  rw [exec_acceptNext]
  exact request_answers p tag 36 _ _ s ready settled _
    (judge_denied p 36 f _ _ ((roleMay_acceptNext p).trans (beq_eq_false_iff_ne.2 other)))

/-- Past SETUP, ACCEPT NEXT from the Crest port is the Roll List's work. -/
theorem judge_acceptNext (n : Nat) (u : State) (past : u.mode ≠ .setup) :
    judge .crest 36 (.fits n) (answered State.acceptNext) u = ((u.acceptNext n).1, some (u.acceptNext n).2) :=
  judge_fits .crest 36 n _ u rfl (fun setup => absurd setup past)

section
variable (tag n : Nat) (s : State) (ready : s.ready .crest)
include ready

theorem exec_acceptNext_setup (settled : s.Settled) (setup : s.mode = .setup) :
    exec (.acceptNext .crest tag (.fits n)) s = .next (s.served .crest tag 36 ⟨.wrongMode, .nothing⟩) := by
  rw [exec_acceptNext]
  exact request_answers .crest tag 36 _ _ s ready settled _ (judge_setup .crest 36 n _ _ rfl setup rfl)

variable (past : s.mode ≠ .setup)
include past

theorem exec_acceptNext_work (u : State) (reply : Reply)
    (work : (s.taking .crest (.acceptNext .crest tag (.fits n))).acceptNext n = (u, reply)) :
    exec (.acceptNext .crest tag (.fits n)) s =
      .next ((u.modPort .crest (fun q => q.answer tag 36 reply)).finish s (some (.request 36 .crest))) := by
  rw [exec_acceptNext]
  refine request_ready .crest tag 36 _ _ s ready u reply ?_
  rw [judge_acceptNext n (s.taking .crest _) past, work]

/-- Where the Roll List changes nothing, its answer is all that ACCEPT NEXT does. -/
theorem exec_acceptNext_answers (settled : s.Settled) (st : Status) (d : AnswerData)
    (work : (s.taking .crest (.acceptNext .crest tag (.fits n))).acceptNext n =
      (s.taking .crest (.acceptNext .crest tag (.fits n)), ⟨st, d⟩)) :
    exec (.acceptNext .crest tag (.fits n)) s = .next (s.served .crest tag 36 ⟨st, d⟩) := by
  rw [exec_acceptNext]
  refine request_answers .crest tag 36 _ _ s ready settled _ ?_
  rw [judge_acceptNext n (s.taking .crest _) past, work]

end

/-! ### The event that accepts the STAGED cut -/

theorem acceptAnswered_frame (s : State) (tag n : Nat) (r : CutRec) :
    let u := s.acceptAnswered tag n r
    u = { s with
      cuts := s.cuts.map (fun x => if x.id = r.id then { x with accepted := true } else x),
      holdInbox := s.holdInbox ++ [⟨.block .rollList, .clear .nextRestricted⟩], ports := u.ports } := by
  simp only [← beq_iff_eq (α := CutId)]
  rfl

section
variable (s : State) (tag n : Nat) (r : CutRec) (settled : s.Settled)
include settled

/-- Accepting a cut leaves DRAINING what it had to drain (R20). -/
theorem acceptAnswered_drains (draining : (s.acceptAnswered tag n r).mode = .draining) :
    (s.acceptAnswered tag n r).hasMoving = true := by
  obtain ⟨-, -, drains⟩ := settled
  have same : (s.acceptAnswered tag n r).hasMoving = s.hasMoving :=
    hasMoving_modCut s r.id (fun x => { x with accepted := true }) (fun _ => rfl)
  exact same.trans (drains draining)

/-- Its one claim clears NEXT RESTRICTED (R77, R172). -/
theorem finish_accept_holds (before : State) (k : HoldSource) :
    ((s.acceptAnswered tag n r).finish before (some k)).holds = s.holds.update s.now [.clear .nextRestricted] := by
  obtain ⟨inbox, -, -⟩ := settled
  exact finish_holds_of_clear _ before k (.block .rollList) .nextRestricted (congrArg (· ++ [_]) inbox)

/-- It changes the cut, the Hold Unit and the ports alone. -/
theorem finish_accept (src : Option HoldSource) :
    let t := (s.acceptAnswered tag n r).finish s src
    t = { s with cuts := s.cuts.map (fun x => if x.id = r.id then { x with accepted := true } else x),
                 holds := t.holds, relay := t.relay, ports := t.ports } := by
  have closes := finish_holds_and_ports (s.acceptAnswered tag n r) s src rfl (acceptAnswered_drains s tag n r settled)
  obtain ⟨inbox, -, -⟩ := settled
  dsimp only at closes ⊢
  refine closes.trans ?_
  rw [← inbox]
  generalize (s.acceptAnswered tag n r).finish s src = t
  rw [acceptAnswered_frame]

/-- HUMP PROCEED is judged in the mode the event began in (R173). -/
theorem finish_accept_relay (src : Option HoldSource) :
    ((s.acceptAnswered tag n r).finish s src).relay =
      relayJudgement s.mode ((s.acceptAnswered tag n r).finish s src).holds := by
  have mode : ((s.acceptAnswered tag n r).finish s src).mode = s.mode :=
    finish_mode_kept _ s src (acceptAnswered_drains s tag n r settled)
  rw [finish_relay, mode]

end

theorem finish_accept_answered (s before : State) (tag n : Nat) (r : CutRec) (src : Option HoldSource) :
    ((s.acceptAnswered tag n r).finish before src).Answered .crest tag 36 ⟨.done, .nothing⟩ :=
  answered_of_hears s _ before .crest _ tag 36 _ src (Hears.of_ports rfl)

/-- Settles O40, by the port, the mode and the STAGED record; only a RESTRICTED cut not accepted before changes anything. -/
theorem acceptNextAcceptsTheStagedCut : Obligations.AcceptNextAcceptsTheStagedCut := by
  intro p tag n s ready settled
  refine ⟨exec_acceptNext_denied p tag _ s ready settled, ?_, ?_, ?_⟩
  · rintro rfl setup
    exact exec_acceptNext_setup tag n s ready settled setup
  · rintro rfl past noStaged
    exact exec_acceptNext_answers tag n s ready past settled _ _ (acceptNext_none n _ noStaged)
  · rintro rfl past r staged
    have answers := exec_acceptNext_answers tag n s ready past settled
    by_cases other : r.id.roll ≠ n
    · rw [if_pos other]
      exact answers _ _ (acceptNext_other_roll n _ r staged other)
    have own : r.id.roll = n := Decidable.not_not.1 other
    rw [if_neg other]
    by_cases normal : r.cls = .normal
    · rw [if_pos normal]
      exact answers _ _ (acceptNext_normal n _ r staged own normal)
    rw [if_neg normal]
    by_cases accepted : r.accepted = true
    · rw [if_pos accepted]
      exact answers _ _ (acceptNext_again n _ r staged own normal accepted)
    · rw [if_neg accepted]
      have holds := finish_accept_holds s tag n r settled s (.request 36 .crest)
      refine ⟨(s.acceptAnswered tag n r).finish s (some (.request 36 .crest)),
        exec_acceptNext_work tag n s ready past _ _
          (acceptNext_accepts n _ r staged own normal accepted),
        finish_accept_answered s s tag n r _, ?_, fun x ne => ?_, ?_, finish_accept_relay s tag n r settled _,
        finish_accept s tag n r settled _⟩
      · rw [holds, HoldSet.has, timeOf_clear_self]
        rfl
      · rw [holds, timeOf_clear_ne _ _ ne]
      · rw [holds, urgent_clear_ne _ _ (by decide)]

end Sys2Proof.Machine
end

section
/-! PROOFS. READ LIST, READ CUT and the reroute of a cut (R71, R116, R117, R121): O19 and O49. -/

namespace Sys2Proof.Machine

/-! ### A read at its port (R183 to R185) -/

/-- A read that the role may make and that every mode takes is answered with what it finds, and nothing but its port changes. -/
theorem request_reads {α : Type} (p : Port) (tag code : Nat) (cmd : Instr) (a : α) (find : α → State → Reply) (s : State)
    (ready : s.ready p) (settled : s.Settled) (role : roleMay code p = true) (everyMode : takenInSetup code = true)
    (r : Reply) (finds : find a (s.taking p cmd) = r) :
    request p tag code cmd (judge p code (.fits a) (reading find)) s = .next (s.served p tag code r) := by
  rw [judge_eq_run p code a _ role everyMode]
  exact request_answers p tag code cmd _ s ready settled r (by rw [reading, finds])

theorem exec_readList (p : Port) (tag : Nat) (f : Fields Nat) (s : State) :
    exec (.readList p tag f) s = request p tag 1 (.readList p tag f) (judge p 1 f (reading State.readList)) s := rfl

theorem exec_readCut (p : Port) (tag : Nat) (f : Fields CutId) (s : State) :
    exec (.readCut p tag f) s = request p tag 2 (.readCut p tag f) (judge p 2 f (reading State.readCut)) s := rfl

/-! ### What the two reads find (R71, R121) -/

/-- The list and the Cut Table are read past the ports. -/
theorem readList_taking (n : Nat) (s : State) (p : Port) (cmd : Instr) :
    (s.taking p cmd).readList n = s.readList n := rfl

theorem readCut_taking (c : CutId) (s : State) (p : Port) (cmd : Instr) :
    (s.taking p cmd).readCut c = s.readCut c := rfl

theorem readCut_of_none (c : CutId) (s : State) (h : s.cut? c = none) : s.readCut c = ⟨.noSuch, .nothing⟩ := by
  simp only [State.readCut, h, Reply.plain]

theorem readCut_of_some (c : CutId) (s : State) (r : CutRec) (h : s.cut? c = some r) :
    s.readCut c = ⟨.done, .cut r (r.path.map (fun st => ⟨st, (s.demandOf c st.point).map Demand.toe⟩))⟩ := by
  simp only [State.readCut, h, Reply.doneWith]

/-- Settles O19, by what each read finds: the list as it stands, no record, or the record with its demands. -/
theorem readListAndReadCutAnswer : Obligations.ReadListAndReadCutAnswer := by
  intro p tag s ready settled
  refine ⟨fun n => ?_, fun c absent => ?_, fun c r present => ?_⟩
  · rw [exec_readList]
    exact request_reads p tag 1 _ n _ s ready settled rfl rfl _ (readList_taking n s p _)
  · rw [exec_readCut]
    exact request_reads p tag 2 _ c _ s ready settled rfl rfl _
      ((readCut_taking c s p _).trans (readCut_of_none c s absent))
  · rw [exec_readCut]
    exact request_reads p tag 2 _ c _ s ready settled rfl rfl _
      ((readCut_taking c s p _).trans (readCut_of_some c s r present))

/-! ### The committed counts when a cut changes its track (R151) -/

theorem track?_of_tracks {s t : State} (h : t.tracks = s.tracks) (n : Nat) : t.track? n = s.track? n := by
  unfold State.track?
  rw [h]

/-- A change of one track record touches no other track's committed count. -/
theorem committed_changeTrack (s : State) (n : Nat) (cause : TrackCause) (always : Bool) (arrival : Option (CutId × Nat))
    (fillBefore : Option Nat) (f : TrackRec → TrackRec) (sameNum : ∀ y, (f y).num = y.num) (m : Nat) :
    ((s.changeTrack n cause always arrival fillBefore f).track? m).map TrackRec.committed =
      (s.track? m).map (fun y => if m = n then (f y).committed else y.committed) := by
  rw [changeTrack_track? _ _ _ _ _ _ f sameNum]
  by_cases same : m = n
  · subst same
    simp [Function.comp_def]
  · simp only [if_neg same]

theorem committed_commitFall (s : State) (n m : Nat) (arrival : Option (CutId × Nat)) :
    ((s.commitFall n arrival).track? m).map TrackRec.committed =
      (s.track? m).map (fun y => if m = n then y.committed - 1 else y.committed) :=
  committed_changeTrack s n _ _ _ _ _ (by intro _; rfl) m

theorem committed_commitRise (s : State) (n m : Nat) :
    ((s.commitRise n).track? m).map TrackRec.committed =
      (s.track? m).map (fun y => if m = n then y.committed + 1 else y.committed) :=
  committed_changeTrack s n _ _ _ _ _ (by intro _; rfl) m

/-- A cut that changes its track is committed to the new one and no longer to the old one. -/
theorem committed_moveCommitment (s : State) {old new : Nat} (ne : new ≠ old) :
    ((s.moveCommitment old new).track? new).map TrackRec.committed =
      (s.track? new).map (fun y => y.committed + 1) ∧
    ((s.moveCommitment old new).track? old).map TrackRec.committed =
      (s.track? old).map (fun y => y.committed - 1) := by
  have fall := committed_commitFall s old (arrival := none)
  rw [State.moveCommitment, if_neg ne.symm]
  refine ⟨?_, ?_⟩
  · have here := congrArg (Option.map (· + 1)) (fall new)
    rw [committed_commitRise]
    simpa [ne, Function.comp_def] using here
  · have here := fall old
    rw [committed_commitRise]
    simpa [ne.symm] using here

/-! ### How a reroute is judged (R116) -/

theorem stepAhead_eq_some_iff (r : CutRec) (st : Step) :
    State.stepAhead r = some st ↔ ∃ f, r.frontier = some (f + 1) ∧ r.path[f]? = some st := by
  unfold State.stepAhead
  split
  case h_1 f frontier => simp [frontier]
  case h_2 other =>
    simp only [reduceCtorEq, false_iff]
    rintro ⟨f, frontier, -⟩
    exact other f frontier

theorem headBeyondEnd_iff (l : Layout) (r : CutRec) :
    State.headBeyondEnd l r = true ↔ r.pathEnd = .opened ∧ ∃ st h, r.path.getLast? = some st ∧ r.head = some h ∧
      l.sensorAtOrBelow st.point h.sensor = true := by
  unfold State.headBeyondEnd
  cases r.path.getLast? <;> cases r.head <;> simp

/-- The head is in a track, beyond the end of an OPEN path, or bound by an outlet that does not lead to the new track (cases 3 to 5
of R116). -/
def HeadTooFar (l : Layout) (r : CutRec) (t : Nat) : Prop :=
  r.frontier = none ∨
    (r.pathEnd = .opened ∧ ∃ st h, r.path.getLast? = some st ∧ r.head = some h ∧
      l.sensorAtOrBelow st.point h.sensor = true) ∨
    (∃ f st, r.frontier = some (f + 1) ∧ r.path[f]? = some st ∧ l.isBelow st t = false)

theorem not_staged_iff (r : CutRec) : r.state ≠ .staged ↔ r.state = .forming ∨ r.state = .rolling := by
  cases r.state <;> simp

/-- A reroute is too late for a moving record whose head is too far. -/
theorem rerouteLate_iff (l : Layout) (r : CutRec) (t : Nat) :
    State.rerouteLate l r t = true ↔ (r.state = .forming ∨ r.state = .rolling) ∧ HeadTooFar l r t := by
  have ahead := stepAhead_eq_some_iff r
  unfold State.rerouteLate HeadTooFar
  rw [Bool.and_eq_true, Bool.or_eq_true, Bool.or_eq_true, or_assoc]
  refine and_congr (bne_iff_ne.trans (not_staged_iff r))
    (or_congr Option.isNone_iff_eq_none (or_congr (headBeyondEnd_iff l r) ?_))
  cases h : State.stepAhead r with
  | none =>
    simp only [Bool.false_eq_true, false_iff]
    rintro ⟨f, st, frontier, step, -⟩
    exact absurd ((ahead st).2 ⟨f, frontier, step⟩) (by simp [h])
  | some st =>
    obtain ⟨f, frontier, step⟩ := (ahead st).1 h
    simp [frontier, step]

/-- A reroute conflicts with the track a STAGED record may not take, or that a moving one may not (case 6 of R116). -/
theorem rerouteConflict_iff (r : CutRec) (k : TrackRec) :
    State.rerouteConflict r k = true ↔ (r.state = .staged ∧ k.state ≠ .opened) ∨
      ((r.state = .forming ∨ r.state = .rolling) ∧ (k.state = .closing ∨ k.state = .closed)) := by
  unfold State.rerouteConflict
  by_cases staged : r.state = .staged
  · simp [staged]
  · simp [staged, (not_staged_iff r).1 staged]

section
variable (a : RerouteArgs) (s : State)

theorem rerouteCut_noSuch (absent : s.cut? a.cut = none ∨ s.track? a.track = none) :
    s.rerouteCut a = (s, ⟨.noSuch, .nothing⟩) := by
  unfold State.rerouteCut
  rcases absent with h | h
  · rw [h]
    cases s.track? a.track <;> rfl
  · rw [h]
    cases s.cut? a.cut <;> rfl

variable (r : CutRec) (k : TrackRec) (record : s.cut? a.cut = some r) (track : s.track? a.track = some k)
include record track

theorem rerouteCut_tooLate (late : State.rerouteLate s.layout r a.track = true) :
    s.rerouteCut a = (s, ⟨.tooLate, .nothing⟩) := by
  simp only [State.rerouteCut, record, track, late, if_true, Reply.plain]

variable (inTime : ¬ State.rerouteLate s.layout r a.track = true)
include inTime

theorem rerouteCut_conflict (conflict : State.rerouteConflict r k = true) :
    s.rerouteCut a = (s, ⟨.conflict, .nothing⟩) := by
  simp only [State.rerouteCut, record, track, if_neg inTime, conflict, if_true, Reply.plain]

variable (free : ¬ State.rerouteConflict r k = true)
include free

theorem rerouteCut_ownTrack (own : a.track = r.dest ∧ r.pathEnd = .track) :
    s.rerouteCut a = (s, ⟨.done, .nothing⟩) := by
  simp only [State.rerouteCut, record, track, if_neg inTime, if_neg free, if_pos own, Reply.done, Reply.plain]

variable (other : ¬ (a.track = r.dest ∧ r.pathEnd = .track))
include other

theorem rerouteCut_full
    (short : s.poolFree + s.demandCount a.cut < ((s.layout.pathTo a.track).drop (r.frontier.getD 0)).length) :
    s.rerouteCut a = (s, ⟨.full, .nothing⟩) := by
  rw [← id_of_cut? record] at short
  simp only [State.rerouteCut, record, track, if_neg inTime, if_neg free, if_neg other, if_pos short, Reply.plain]

theorem rerouteCut_applies
    (room : ((s.layout.pathTo a.track).drop (r.frontier.getD 0)).length ≤ s.poolFree + s.demandCount a.cut) :
    s.rerouteCut a = s.applyReroute r a.track := by
  rw [← id_of_cut? record] at room
  simp only [State.rerouteCut, record, track, if_neg inTime, if_neg free, if_neg other, if_neg (Nat.not_lt.2 room)]

end

/-! ### What a reroute does (R117) -/

/-- The path of a rerouted cut: its steps before the frontier, then those of the path to the new track. -/
def State.reroutePath (s : State) (r : CutRec) (t : Nat) : List Step :=
  r.path.take (r.frontier.getD 0) ++ (s.layout.pathTo t).drop (r.frontier.getD 0)

/-- A record rerouted to a track by a path. -/
def reroutedRecord (t : Nat) (path : List Step) (x : CutRec) : CutRec :=
  { x with path := path, pathEnd := .track, dest := t, status := .rerouted, speed := State.keepSpeed path x.speed }

/-- A reroute before the Track Table hears of it: the old demands gone, those of the new steps inserted, the record changed. -/
def State.rerouted (s : State) (r : CutRec) (t : Nat) : State :=
  ((s.removeDemands r.id (fun _ => true)).insertDemands r.id ((s.layout.pathTo t).drop (r.frontier.getD 0))).modCut r.id
    (reroutedRecord t (s.reroutePath r t))

theorem rerouted_frame (s : State) (r : CutRec) (t : Nat) :
    s.rerouted r t = { s with
      cuts := (s.modCut r.id (reroutedRecord t (s.reroutePath r t))).cuts, demands := (s.rerouted r t).demands } := by
  unfold State.rerouted
  rw [insertDemands_frame]
  rfl

theorem applyReroute_eq (s : State) (r : CutRec) (t : Nat) :
    s.applyReroute r t =
      (((((s.rerouted r t).moveCommitment r.dest t).predict r.id).give
          (.cutDiverted r.id .reroute (State.stepAhead r) r.dest t .rerouted (s.reroutePath r t).length .track)).reportPool
        (s.removeDemands r.id (fun _ => true)) s,
       ⟨.done, .path (s.reroutePath r t)⟩) := rfl

theorem hears_moveCommitment (s : State) (old new : Nat) : Hears s (s.moveCommitment old new) :=
  (OnCut.moveCommitment ⟨0, 0⟩ s old new).hears

theorem hears_applyReroute (s : State) (r : CutRec) (t : Nat) : Hears s (s.applyReroute r t).1 := by
  have predicted (u : State) : Hears u (u.predict r.id) := (OnCut.predict r.id u r.id).hears
  have reported (u v w : State) : Hears u (u.reportPool v w) := (OnCut.reportPool r.id u v w).hears
  have removed : Hears s (s.rerouted r t) := Hears.of_ports (by rw [rerouted_frame])
  rw [applyReroute_eq]
  exact removed.trans ((hears_moveCommitment _ _ _).trans ((predicted _).trans ((hears_give _ _).trans (reported _ _ _))))

/-- What a reroute changes: the cut's record, the demands, the tracks of the moved commitment, notices, and what the Roll List is to
take. -/
theorem applyReroute_frame (s : State) (r : CutRec) (t : Nat) :
    let u := (s.applyReroute r t).1
    u = { s with
      cuts := (s.modCut r.id (reroutedRecord t (s.reroutePath r t))).cuts, demands := u.demands,
      tracks := ((s.rerouted r t).moveCommitment r.dest t).tracks, ports := u.ports,
      trackReportDue := u.trackReportDue, freedDue := u.freedDue } := by
  rw [applyReroute_eq]
  dsimp only
  rw [reportPool_frame, predict_frame, moveCommitment_frame, rerouted_frame]
  rfl

/-- A reroute leaves the list, the points and the hold set, and makes no claim on the hold set. -/
theorem applyReroute_keeps (s : State) (r : CutRec) (t : Nat) :
    let u := (s.applyReroute r t).1
    u.planned = s.planned ∧ u.points = s.points ∧ u.holds = s.holds ∧ u.holdInbox = s.holdInbox := by
  dsimp only
  rw [applyReroute_frame]
  exact ⟨rfl, rfl, rfl, rfl⟩

theorem cut?_applyReroute (s : State) (r : CutRec) (t : Nat) (c : CutId) :
    (s.applyReroute r t).1.cut? c =
      (s.cut? c).map (fun x => if c = r.id then reroutedRecord t (s.reroutePath r t) x else x) := by
  have cuts : (s.applyReroute r t).1.cuts = (s.modCut r.id (reroutedRecord t (s.reroutePath r t))).cuts := by
    rw [applyReroute_frame]
  exact (cut?_of_cuts cuts c).trans (cut?_modCut s r.id c (reroutedRecord t (s.reroutePath r t)) (fun _ => rfl))

theorem committed_applyReroute (s : State) (r : CutRec) (t : Nat) (ne : t ≠ r.dest) :
    ((s.applyReroute r t).1.track? t).map TrackRec.committed = (s.track? t).map (fun y => y.committed + 1) ∧
    ((s.applyReroute r t).1.track? r.dest).map TrackRec.committed =
      (s.track? r.dest).map (fun y => y.committed - 1) := by
  have moved : (s.applyReroute r t).1.tracks = ((s.rerouted r t).moveCommitment r.dest t).tracks := by
    rw [applyReroute_frame]
  have before : (s.rerouted r t).tracks = s.tracks := by rw [rerouted_frame]
  simpa only [track?_of_tracks moved, track?_of_tracks before] using committed_moveCommitment (s.rerouted r t) ne

/-! ### REROUTE CUT at its port (R17, R183 to R185) -/

theorem exec_rerouteCut (p : Port) (tag : Nat) (f : Fields RerouteArgs) (s : State) :
    exec (.rerouteCut p tag f) s =
      request p tag 49 (.rerouteCut p tag f) (judge p 49 f (answered State.rerouteCut)) s := rfl

theorem roleMay_rerouteCut (p : Port) : roleMay 49 p = (p == .crest) := rfl

/-- Past SETUP, REROUTE CUT from the Crest port is the Route Planner's work. -/
theorem judge_rerouteCut (a : RerouteArgs) (u : State) (past : u.mode ≠ .setup) :
    judge .crest 49 (.fits a) (answered State.rerouteCut) u = ((u.rerouteCut a).1, some (u.rerouteCut a).2) :=
  judge_fits .crest 49 a _ u rfl (fun setup => absurd setup past)

theorem exec_rerouteCut_denied (p : Port) (tag : Nat) (f : Fields RerouteArgs) (s : State) (ready : s.ready p)
    (settled : s.Settled) (other : p ≠ .crest) :
    exec (.rerouteCut p tag f) s = .next (s.served p tag 49 ⟨.denied, .nothing⟩) := by
  rw [exec_rerouteCut]
  exact request_answers p tag 49 _ _ s ready settled _
    (judge_denied p 49 f _ _ ((roleMay_rerouteCut p).trans (beq_eq_false_iff_ne.2 other)))

section
variable (tag : Nat) (a : RerouteArgs) (s : State) (ready : s.ready .crest)
include ready

theorem exec_rerouteCut_setup (settled : s.Settled) (setup : s.mode = .setup) :
    exec (.rerouteCut .crest tag (.fits a)) s = .next (s.served .crest tag 49 ⟨.wrongMode, .nothing⟩) := by
  rw [exec_rerouteCut]
  exact request_answers .crest tag 49 _ _ s ready settled _ (judge_setup .crest 49 a _ _ rfl setup rfl)

variable (past : s.mode ≠ .setup)
include past

theorem exec_rerouteCut_work (u : State) (reply : Reply)
    (work : (s.taking .crest (.rerouteCut .crest tag (.fits a))).rerouteCut a = (u, reply)) :
    exec (.rerouteCut .crest tag (.fits a)) s =
      .next ((u.modPort .crest (fun q => q.answer tag 49 reply)).finish s (some (.request 49 .crest))) := by
  rw [exec_rerouteCut]
  refine request_ready .crest tag 49 _ _ s ready u reply ?_
  rw [judge_rerouteCut a (s.taking .crest _) past, work]

/-- Where the Route Planner changes nothing, its answer is all that REROUTE CUT does. -/
theorem exec_rerouteCut_answers (settled : s.Settled) (reply : Reply)
    (work : (s.taking .crest (.rerouteCut .crest tag (.fits a))).rerouteCut a =
      (s.taking .crest (.rerouteCut .crest tag (.fits a)), reply)) :
    exec (.rerouteCut .crest tag (.fits a)) s = .next (s.served .crest tag 49 reply) := by
  rw [exec_rerouteCut]
  refine request_answers .crest tag 49 _ _ s ready settled reply ?_
  rw [judge_rerouteCut a (s.taking .crest _) past, work]

end

/-! ### The event that reroutes a cut -/

/-- The state when the event that reroutes a cut has closed. -/
def State.afterReroute (s : State) (tag : Nat) (a : RerouteArgs) (r : CutRec) : State :=
  (((s.taking .crest (.rerouteCut .crest tag (.fits a))).applyReroute r a.track).1.modPort .crest
    (fun q => q.answer tag 49 ⟨.done, .path (s.reroutePath r a.track)⟩)).finish s (some (.request 49 .crest))

section
variable (s : State) (tag : Nat) (a : RerouteArgs) (r : CutRec)

theorem afterReroute_answered :
    (s.afterReroute tag a r).Answered .crest tag 49 ⟨.done, .path (s.reroutePath r a.track)⟩ :=
  answered_of_hears s _ s .crest _ tag 49 _ _ (hears_applyReroute _ r a.track)

theorem cut?_afterReroute (c : CutId) :
    (s.afterReroute tag a r).cut? c =
      (s.cut? c).map (fun x => if c = r.id then reroutedRecord a.track (s.reroutePath r a.track) x else x) :=
  (cut?_of_cuts (finish_cuts _ _ _) c).trans (cut?_applyReroute (s.taking .crest _) r a.track c)

theorem committed_afterReroute (ne : a.track ≠ r.dest) :
    ((s.afterReroute tag a r).track? a.track).map TrackRec.committed =
      (s.track? a.track).map (fun y => y.committed + 1) ∧
    ((s.afterReroute tag a r).track? r.dest).map TrackRec.committed =
      (s.track? r.dest).map (fun y => y.committed - 1) := by
  have tracks (n : Nat) := track?_of_tracks (finish_tracks
    (((s.taking .crest (.rerouteCut .crest tag (.fits a))).applyReroute r a.track).1.modPort .crest
      (fun q => q.answer tag 49 ⟨.done, .path (s.reroutePath r a.track)⟩)) s (some (.request 49 .crest))) n
  unfold State.afterReroute
  rw [tracks, tracks]
  exact committed_applyReroute (s.taking .crest _) r a.track ne

theorem afterReroute_keeps (settled : s.Settled) :
    (s.afterReroute tag a r).planned = s.planned ∧ (s.afterReroute tag a r).holds = s.holds ∧
      (s.afterReroute tag a r).points = s.points := by
  obtain ⟨planned, points, holds, claims⟩ :=
    applyReroute_keeps (s.taking .crest (.rerouteCut .crest tag (.fits a))) r a.track
  obtain ⟨settledInbox, -, -⟩ := settled
  have noClaim := claims.trans settledInbox
  refine ⟨(finish_planned _ _ _).trans planned, ?_, (finish_points _ _ _).trans points⟩
  rw [State.afterReroute, finish_holds _ _ _ (by simp), modPort_holdInbox, noClaim]
  exact holds

end

/-- Settles O49, by the cases of R116 in their order; past them all the reroute of R117. -/
theorem rerouteReplacesTheStepsAhead : Obligations.RerouteReplacesTheStepsAhead := by
  intro p tag a s ready settled
  refine ⟨exec_rerouteCut_denied p tag _ s ready settled, ?_, ?_, ?_⟩
  · rintro rfl setup
    exact exec_rerouteCut_setup tag a s ready settled setup
  · rintro rfl past absent
    exact exec_rerouteCut_answers tag a s ready past settled _ (rerouteCut_noSuch a _ absent)
  · rintro rfl past r k record track
    have answers := exec_rerouteCut_answers tag a s ready past settled
    have late := rerouteLate_iff s.layout r a.track
    have conflicting := rerouteConflict_iff r k
    refine ⟨fun tooFar => answers _ (rerouteCut_tooLate a _ r k record track (late.2 tooFar)),
      fun inTime conflict => answers _
        (rerouteCut_conflict a _ r k record track (mt late.1 inTime) (conflicting.2 conflict)),
      fun inTime free own atTrack => answers _
        (rerouteCut_ownTrack a _ r k record track (mt late.1 inTime) (mt conflicting.1 free) ⟨own, atTrack⟩),
      fun inTime free other => ⟨fun short => answers _
        (rerouteCut_full a _ r k record track (mt late.1 inTime) (mt conflicting.1 free) other short), fun room => ?_⟩⟩
    have applies := rerouteCut_applies a (s.taking .crest (.rerouteCut .crest tag (.fits a))) r k record track
      (mt late.1 inTime) (mt conflicting.1 free) other room
    have cuts := cut?_afterReroute s tag a r
    have own := id_of_cut? record
    obtain ⟨planned, holds, points⟩ := afterReroute_keeps s tag a r settled
    refine ⟨s.afterReroute tag a r, reroutedRecord a.track (s.reroutePath r a.track) r,
      exec_rerouteCut_work tag a s ready past _ _ applies, afterReroute_answered s tag a r, ?_, rfl, fun c ne => ?_,
      planned, holds, points, committed_afterReroute s tag a r⟩
    · rw [cuts, record, Option.map_some, if_pos own.symm]
    · simp [cuts, own, ne]

end Sys2Proof.Machine
end

section
/-! PROOFS. Reads of the port itself and of its custody, and the custody requests TAKE, REFUSE and DROP GRANT (R165 to R167,
R170, R194): O21 and O55. -/

namespace Sys2Proof.Machine

/-! ### READ PORT and READ GRANTS at their port (R183 to R185) -/

theorem exec_readPort (p : Port) (tag : Nat) (f : Fields Unit) (s : State) :
    exec (.readPort p tag f) s =
      request p tag 6 (.readPort p tag f) (judge p 6 f (reading (fun _ => State.readPort p))) s := rfl

theorem exec_readGrants (p : Port) (tag : Nat) (f : Fields Unit) (s : State) :
    exec (.readGrants p tag f) s =
      request p tag 7 (.readGrants p tag f) (judge p 7 f (reading (fun _ => State.readGrants p))) s := rfl

theorem roleMay_readGrants (p : Port) : roleMay 7 p = (p != .speed) := rfl

/-! ### What the two reads find (R170, R194) -/

/-- READ PORT finds its own request in the working slot, and everything else as it stood before. -/
theorem readPort_taking (s : State) (p : Port) (cmd : Instr) :
    let q := s.ports.get p
    (s.taking p cmd).readPort p = ⟨.done, .port p true q.waiting.isSome q.urgent.isSome q.answers.length q.notices.length
      q.overrun q.discards q.mask (s.custody.get p).inbound.length s.mode s.loadState.1 s.loadState.2 s.holds s.relay
      s.now⟩ := by
  simp only [State.readPort, State.taking, modPort_ports, PerPort.get_set, modPort_custody, modPort_mode, modPort_holds,
    modPort_relay, State.loadState, modPort_load, State.now, modPort_clock, Option.isSome_some, Reply.doneWith]

theorem loadState_absent (s : State) (h : s.load = .absent) : s.loadState = (.none, none) := by
  simp only [State.loadState, h]

theorem loadState_opened (s : State) {o : Port} {l : Layout} (h : s.load = .opened o l) :
    s.loadState = (.opened, some o) := by
  simp only [State.loadState, h]

theorem loadState_writing (s : State) {o : Port} {l : Layout} {n : Nat} (h : s.load = .writing o l n) :
    s.loadState = (.writing, some o) := by
  simp only [State.loadState, h]

theorem readGrants_taking (s : State) (p : Port) (cmd : Instr) :
    (s.taking p cmd).readGrants p = ⟨.done, .grants (s.custody.get p).slots (s.custody.get p).inbound⟩ := rfl

/-- Settles O21: each read is answered with what it finds, by the cases of the load; the Speed port may not read grants. -/
theorem readPortAndReadGrantsAnswerOwnPort : Obligations.ReadPortAndReadGrantsAnswerOwnPort := by
  intro p tag s ready settled
  refine ⟨?_, fun other => ?_, fun speed f => ?_⟩
  · rw [exec_readPort]
    refine request_reads p tag 6 _ () _ s ready settled rfl rfl _ ((readPort_taking s p _).trans ?_)
    cases load : s.load with
    | absent => rw [loadState_absent s load]
    | opened o l => rw [loadState_opened s load]
    | writing o l n => rw [loadState_writing s load]
  · rw [exec_readGrants]
    exact request_reads p tag 7 _ () _ s ready settled ((roleMay_readGrants p).trans (bne_iff_ne.2 other)) rfl _
      (readGrants_taking s p _)
  · rw [exec_readGrants]
    exact request_answers p tag 7 _ _ s ready settled _
      (judge_denied p 7 f _ _ ((roleMay_readGrants p).trans (bne_eq_false_iff_eq.2 speed)))

/-! ### Grant tables (R160, R165) -/

theorem setAt_eq_set {α : Type} (l : List α) (n : Nat) (a : α) : setAt l n a = l.set n a := by
  induction l generalizing n with
  | nil => rfl
  | cons x xs ih =>
    cases n with
    | zero => rfl
    | succ n => exact congrArg (x :: ·) (ih n)

/-- Whether a slot holds a grant for a track. -/
def coversTrack (n : Nat) : Option Grant → Bool
  | some g => g.track == n
  | none => false

section
variable (c : Custody)

theorem slotOf_eq (n : Nat) : c.slotOf n = (c.slots.findIdx? (coversTrack n)).map (fun i => i + 1) := by
  have covers : (fun g => match g with
      | some g => g.track == n
      | none => false) = coversTrack n := by
    funext g
    cases g <;> rfl
  rw [← covers]
  rfl

variable {c}

theorem slot_of_getElem? {k : Nat} {x : Option Grant} (h : c.slots[k - 1]? = some x) : c.slot k = x := by
  rw [Custody.slot, h]
  rfl

theorem setSlot_eq (k : Nat) (g : Option Grant) : c.setSlot k g = ⟨c.slots.set (k - 1) g, c.inbound⟩ := by
  rw [Custody.setSlot, setAt_eq_set]

theorem slot_set {k : Nat} (h : k - 1 < c.slots.length) (g : Option Grant) (l : List Inbound) :
    Custody.slot ⟨c.slots.set (k - 1) g, l⟩ k = g := by
  rw [Custody.slot, List.getElem?_set_self h]
  rfl

theorem uniteSlot_eq {k : Nat} {g : Grant} (h : c.slots[k - 1]? = some (some g)) (r : Rights) :
    c.uniteSlot k r = ⟨c.slots.set (k - 1) (some { g with rights := g.rights.unite r }), c.inbound⟩ := by
  rw [Custody.uniteSlot, slot_of_getElem? h, setSlot_eq]
  rfl

end

theorem roleMay_custody {code : Nat} (custody : code = 74 ∨ code = 75 ∨ code = 76) {p : Port} (other : p ≠ .speed) :
    roleMay code p = true := by
  rcases custody with rfl | rfl | rfl <;> exact bne_iff_ne.2 other

/-! ### A request that changes its port's custody -/

/-- A request whose work leaves the demands alone and the state settled closes by starting the free lines. -/
theorem request_starts_lines (p : Port) (tag code : Nat) (cmd : Instr) (work : State → State × Option Reply) (s u : State)
    (r : Reply) (ready : s.ready p) (settled : u.Settled) (demands : u.demands = s.demands)
    (does : work (s.taking p cmd) = (u, some r)) :
    request p tag code cmd work s = .next (u.modPort p (fun q => q.answer tag code r)).startLines := by
  let v : State := u.modPort p (fun q => q.answer tag code r)
  have closes : v.finish s (some (.request code p)) = v.startLines :=
    (finish_before v s v _ demands.symm).trans (finish_unchanged v _ settled)
  rw [request_ready p tag code cmd work s ready u r does]
  exact congrArg _ closes

section
variable {α : Type} (p : Port) (tag code : Nat) (cmd : Instr) (a : α) (run : α → State → State × Reply) (s : State)
  (ready : s.ready p) (settled : s.Settled) (role : roleMay code p = true) (past : s.mode ≠ .setup)
include role past

/-- Past SETUP, a request its role may make is its block's work. -/
theorem judge_past_setup : judge p code (.fits a) (answered run) (s.taking p cmd) =
    ((run a (s.taking p cmd)).1, some (run a (s.taking p cmd)).2) :=
  judge_fits p code a (answered run) (s.taking p cmd) role (fun setup => absurd setup past)

include ready settled

/-- Past SETUP, a request whose block changes nothing is answered, and nothing but its port changes. -/
theorem request_answers_past_setup (r : Reply) (does : run a (s.taking p cmd) = (s.taking p cmd, r)) :
    request p tag code cmd (judge p code (.fits a) (answered run)) s = .next (s.served p tag code r) :=
  request_answers p tag code cmd _ s ready settled r (by rw [judge_past_setup p code cmd a run s role past, does])

/-- Past SETUP, a request whose block changes its port's custody alone leaves that change, its port, and the lines that start. -/
theorem request_sets_custody (c : Custody) (r : Reply)
    (does : run a (s.taking p cmd) = ((s.taking p cmd).modCustody p (fun _ => c), r)) :
    request p tag code cmd (judge p code (.fits a) (answered run)) s =
      .next ((s.modCustody p (fun _ => c)).served p tag code r) := by
  rw [request_starts_lines p tag code cmd _ s ((s.taking p cmd).modCustody p (fun _ => c)) r ready settled rfl
    (by rw [judge_past_setup p code cmd a run s role past, does])]
  exact congrArg _ (taking_answer (s.modCustody p (fun _ => c)) p cmd tag code r)

end

/-- A request whose work changes custody and gives notices changes custody and the ports alone; its answer and the notices stand
when the event ends. -/
theorem request_hands_on (p : Port) (tag code : Nat) (cmd : Instr) (work : State → State × Option Reply) (s u : State)
    (r : Reply) (ready : s.ready p) (settled : s.Settled) (frame : u = { s with custody := u.custody, ports := u.ports })
    (hears : Hears (s.taking p cmd) u) (does : work (s.taking p cmd) = (u, some r)) :
    ∃ t, request p tag code cmd work s = .next t ∧ t.Answered p tag code r ∧ t.custody = u.custody ∧
      (∀ b, u.Gave b → t.Gave b) ∧ t = { s with custody := t.custody, ports := t.ports } := by
  obtain ⟨c, ports, rfl⟩ : ∃ c q, u = { s with custody := c, ports := q } := ⟨_, _, frame⟩
  let u : State := { s with custody := c, ports := ports }
  let v : State := u.modPort p (fun q => q.answer tag code r)
  have closes : v.finish s (some (.request code p)) = v.startLines :=
    (finish_before v s v _ rfl).trans (finish_unchanged v _ settled)
  refine ⟨v.startLines, request_starts_lines p tag code cmd work s u r ready settled rfl does, ?_, rfl,
    fun b given => ?_, rfl⟩
  · rw [← closes]
    exact answered_of_hears s u s p cmd tag code r _ hears
  · rw [← closes]
    exact gave_finish (gave_answer given p tag code r) s _

/-! ### TAKE GRANT (R165) -/

theorem exec_takeGrant (p : Port) (tag : Nat) (f : Fields Nat) (s : State) :
    exec (.takeGrant p tag f) s =
      request p tag 74 (.takeGrant p tag f) (judge p 74 f (answered (State.takeGrant p))) s := rfl

section
variable (s : State) (p : Port)

theorem takeInto_places (e : Inbound) {k : Nat} (slot : k - 1 < (s.custody.get p).slots.length) :
    s.takeInto p e k false =
      (s.modCustody p (fun c => ⟨c.slots.set (k - 1) (some e.grant), c.inbound.tail⟩),
        ⟨.done, .taken k e.grant.track e.grant.rights e.kind e.sender⟩) := by
  simp only [State.takeInto, Bool.false_eq_true, if_false, modCustody_custody, PerPort.get_set, setSlot_eq, slot_set slot,
    Reply.doneWith]

theorem takeInto_unites (e : Inbound) {k : Nat} {g : Grant} (holds : (s.custody.get p).slots[k - 1]? = some (some g)) :
    s.takeInto p e k true =
      (s.modCustody p (fun c =>
          ⟨c.slots.set (k - 1) (some { g with rights := g.rights.unite e.grant.rights }), c.inbound.tail⟩),
        ⟨.done, .taken k e.grant.track (g.rights.unite e.grant.rights) e.kind e.sender⟩) := by
  obtain ⟨slot, -⟩ := List.getElem?_eq_some_iff.1 holds
  have unites := uniteSlot_eq (c := ⟨(s.custody.get p).slots, (s.custody.get p).inbound.tail⟩) holds e.grant.rights
  simp only [State.takeInto, if_true, State.modCustody, PerPort.get_set, unites, slot_set slot, Reply.doneWith]

theorem takeGrant_badValue {k : Nat} (h : 16 < k) : s.takeGrant p k = (s, ⟨.badValue, .nothing⟩) := if_pos h

theorem takeGrant_noSuch {k : Nat} (inRange : k ≤ 16) (empty : (s.custody.get p).inbound = []) :
    s.takeGrant p k = (s, ⟨.noSuch, .nothing⟩) := by
  simp only [State.takeGrant, Config.grantSlots, if_neg (Nat.not_lt.2 inRange), empty, Reply.plain]

variable {k : Nat} {e : Inbound} {rest : List Inbound} (oldest : (s.custody.get p).inbound = e :: rest)
include oldest

/-- A grant for a track that the table holds is united with the one there, whatever slot is preferred. -/
theorem takeGrant_unites {i : Nat} {g : Grant} (inRange : k ≤ 16)
    (holder : (s.custody.get p).slots.findIdx? (coversTrack e.grant.track) = some i)
    (holds : (s.custody.get p).slots[i]? = some (some g)) :
    s.takeGrant p k =
      (s.modCustody p (fun c =>
          ⟨c.slots.set i (some { g with rights := g.rights.unite e.grant.rights }), rest⟩),
        ⟨.done, .taken (i + 1) e.grant.track (g.rights.unite e.grant.rights) e.kind e.sender⟩) := by
  have takes : s.takeGrant p k = s.takeInto p e (i + 1) true := by
    simp only [State.takeGrant, Config.grantSlots, if_neg (Nat.not_lt.2 inRange), oldest, slotOf_eq, holder,
      Option.map_some]
  rw [takes, takeInto_unites s p e holds]
  simp only [State.modCustody, oldest, List.tail_cons, Nat.add_sub_cancel]

variable (noHolder : (s.custody.get p).slots.findIdx? (coversTrack e.grant.track) = none)
include noHolder

theorem takeGrant_full (noPreference : k = 0) (noFree : (s.custody.get p).slots.findIdx? Option.isNone = none) :
    s.takeGrant p k = (s, ⟨.full, .nothing⟩) := by
  simp only [State.takeGrant, noPreference, Nat.not_lt_zero, if_false, if_true, oldest, slotOf_eq, noHolder,
    Custody.freeSlot, noFree, Option.map_none, Reply.plain]

theorem takeGrant_lowest {i : Nat} (noPreference : k = 0)
    (free : (s.custody.get p).slots.findIdx? Option.isNone = some i) :
    s.takeGrant p k =
      (s.modCustody p (fun c => ⟨c.slots.set i (some e.grant), rest⟩),
        ⟨.done, .taken (i + 1) e.grant.track e.grant.rights e.kind e.sender⟩) := by
  have takes : s.takeGrant p k = s.takeInto p e (i + 1) false := by
    simp only [State.takeGrant, noPreference, Nat.not_lt_zero, if_false, if_true, oldest, slotOf_eq, noHolder,
      Custody.freeSlot, free, Option.map_none, Option.map_some]
  obtain ⟨slot, -⟩ := List.findIdx?_eq_some_iff_getElem.1 free
  rw [takes, takeInto_places s p e slot]
  simp only [State.modCustody, oldest, List.tail_cons, Nat.add_sub_cancel]

variable (inRange : k ≤ 16) (preferred : 1 ≤ k)
include inRange preferred

theorem takeGrant_occupied {g : Grant} (occupied : (s.custody.get p).slots[k - 1]? = some (some g)) :
    s.takeGrant p k = (s, ⟨.badValue, .track g.track⟩) := by
  simp only [State.takeGrant, Config.grantSlots, if_neg (Nat.not_lt.2 inRange), oldest, slotOf_eq, noHolder,
    Option.map_none, if_neg (Nat.ne_of_gt preferred), slot_of_getElem? occupied]

theorem takeGrant_preferred (free : (s.custody.get p).slots[k - 1]? = some none) :
    s.takeGrant p k =
      (s.modCustody p (fun c => ⟨c.slots.set (k - 1) (some e.grant), rest⟩),
        ⟨.done, .taken k e.grant.track e.grant.rights e.kind e.sender⟩) := by
  have takes : s.takeGrant p k = s.takeInto p e k false := by
    simp only [State.takeGrant, Config.grantSlots, if_neg (Nat.not_lt.2 inRange), oldest, slotOf_eq, noHolder,
      Option.map_none, if_neg (Nat.ne_of_gt preferred), slot_of_getElem? free]
  obtain ⟨slot, -⟩ := List.getElem?_eq_some_iff.1 free
  rw [takes, takeInto_places s p e slot]
  simp only [State.modCustody, oldest, List.tail_cons]

end

/-! ### REFUSE GRANT (R166) -/

theorem exec_refuseGrant (p : Port) (tag : Nat) (f : Fields Unit) (s : State) :
    exec (.refuseGrant p tag f) s =
      request p tag 75 (.refuseGrant p tag f) (judge p 75 f (answered (fun _ => State.refuseGrant p))) s := rfl

section
variable (s : State) (p target : Port) (kind : OfferKind) (g : Grant)

theorem offer_custody : (s.offer p target kind g).custody = s.custody.set target
    ⟨(s.custody.get target).slots, (s.custody.get target).inbound ++ [⟨g, p, kind⟩]⟩ := rfl

/-- Offering a grant changes the target's queue, and gives a notice to the ports. -/
theorem offer_frame : let u := s.offer p target kind g
    u = { s with custody := u.custody, ports := u.ports } ∧ Hears s u :=
  ⟨rfl, Hears.trans (Hears.of_ports rfl) (hears_give _ _)⟩

theorem offer_gave : (s.offer p target kind g).Gave
    (.grantOffer target kind g p ((s.custody.get target).inbound.length + 1)) := by
  have place : ((s.modCustody target (fun c => { c with inbound := c.inbound ++ [⟨g, p, kind⟩] })).custody.get
      target).inbound.length = (s.custody.get target).inbound.length + 1 := by
    rw [modCustody_custody, PerPort.get_set, List.length_append, List.length_singleton]
  rw [← place]
  exact gave_give _ _

end

section
variable (s : State) (p : Port)

theorem refuseGrant_noSuch (empty : (s.custody.get p).inbound = []) :
    s.refuseGrant p = (s, ⟨.noSuch, .nothing⟩) := by
  simp only [State.refuseGrant, empty, Reply.plain]

variable {e : Inbound} {rest : List Inbound} (oldest : (s.custody.get p).inbound = e :: rest)
include oldest

theorem refuseGrant_full (full : 4 ≤ (s.custody.get e.sender).inbound.length) :
    s.refuseGrant p = (s, ⟨.full, .nothing⟩) := by
  simp only [State.refuseGrant, oldest, Config.inboundSize, full, if_true, Reply.plain]

/-- With room at its sender, the oldest entry leaves its queue and is offered back. -/
theorem refuseGrant_returns (room : (s.custody.get e.sender).inbound.length < 4) :
    s.refuseGrant p =
      ((s.modCustody p (fun c => ⟨c.slots, rest⟩)).offer p e.sender .returned e.grant, ⟨.done, .nothing⟩) := by
  simp only [State.refuseGrant, oldest, Config.inboundSize, if_neg (Nat.not_le.2 room), State.modCustody, List.tail_cons,
    Reply.done, Reply.plain]

end

/-- The event that returns the oldest inbound entry to its sender. -/
theorem exec_refuseGrant_returns (p : Port) (tag : Nat) (s : State) (ready : s.ready p) (settled : s.Settled)
    (past : s.mode ≠ .setup) (role : roleMay 75 p = true) {e : Inbound} {rest : List Inbound}
    (oldest : (s.custody.get p).inbound = e :: rest) (room : (s.custody.get e.sender).inbound.length < 4) :
    let mid := s.modCustody p (fun c => ⟨c.slots, rest⟩)
    ∃ t, exec (.refuseGrant p tag (.fits ())) s = .next t ∧ t.Answered p tag 75 ⟨.done, .nothing⟩ ∧
      t.custody = mid.custody.set e.sender
        ⟨(mid.custody.get e.sender).slots, (mid.custody.get e.sender).inbound ++ [⟨e.grant, p, .returned⟩]⟩ ∧
      t.Gave (.grantOffer e.sender .returned e.grant p ((mid.custody.get e.sender).inbound.length + 1)) ∧
      t = { s with custody := t.custody, ports := t.ports } := by
  intro mid
  let start := (s.taking p (.refuseGrant p tag (.fits ()))).modCustody p (fun c => ⟨c.slots, rest⟩)
  obtain ⟨frame, hears⟩ := offer_frame start p e.sender .returned e.grant
  have does := judge_past_setup p 75 (.refuseGrant p tag (.fits ())) () (fun _ => State.refuseGrant p) s role past
  rw [refuseGrant_returns (s.taking p _) p oldest room] at does
  obtain ⟨t, runs, answers, custody, gives, keeps⟩ := request_hands_on p tag 75 _ _ s _ _ ready settled frame
    (Hears.trans (Hears.of_ports rfl) hears) does
  exact ⟨t, (exec_refuseGrant p tag _ s).trans runs, answers,
    custody.trans (offer_custody start p e.sender .returned e.grant),
    gives _ (offer_gave start p e.sender .returned e.grant), keeps⟩

/-! ### DROP GRANT (R167) -/

theorem exec_dropGrant (p : Port) (tag : Nat) (f : Fields Nat) (s : State) :
    exec (.dropGrant p tag f) s =
      request p tag 76 (.dropGrant p tag f) (judge p 76 f (answered (State.dropGrant p))) s := rfl

section
variable (s : State) (p : Port) {k : Nat}

theorem dropGrant_badValue (outside : k < 1 ∨ 16 < k) : s.dropGrant p k = (s, ⟨.badValue, .nothing⟩) := if_pos outside

variable (inRange : ¬ (k < 1 ∨ 16 < k))
include inRange

theorem dropGrant_noSuch (empty : (s.custody.get p).slot k = none) : s.dropGrant p k = (s, ⟨.noSuch, .nothing⟩) := by
  simp only [State.dropGrant, Config.grantSlots, if_neg inRange, empty, Reply.plain]

theorem dropGrant_conflict {g : Grant} (holds : (s.custody.get p).slot k = some g) (close : g.rights.close = true) :
    s.dropGrant p k = (s, ⟨.conflict, .nothing⟩) := by
  simp only [State.dropGrant, Config.grantSlots, if_neg inRange, holds, if_pos close, Reply.plain]

theorem dropGrant_drops {g : Grant} (holds : (s.custody.get p).slot k = some g) (noClose : g.rights.close = false) :
    s.dropGrant p k =
      (s.modCustody p (fun c => ⟨c.slots.set (k - 1) none, c.inbound⟩), ⟨.done, .track g.track⟩) := by
  simp only [State.dropGrant, Config.grantSlots, if_neg inRange, holds, noClose, Bool.false_eq_true, if_false, setSlot_eq,
    Reply.doneWith]

end

/-- Settles O55, by the cases of each request in the order of R165 to R167. -/
theorem takeRefuseAndDropGrants : Obligations.TakeRefuseAndDropGrants := by
  intro p tag k s ready settled past other take refuse drop answer c covers done
  have covers_eq (e : Inbound) : covers e = coversTrack e.grant.track := by
    funext g
    cases g <;> rfl
  have role {code : Nat} (custody : code = 74 ∨ code = 75 ∨ code = 76) := roleMay_custody custody other
  have takeAnswers (r : Reply) := request_answers_past_setup p tag 74 (.takeGrant p tag (.fits k)) k (State.takeGrant p) s
    ready settled (role (by decide)) past r
  have takeMoves (c : Custody) (r : Reply) := request_sets_custody p tag 74 (.takeGrant p tag (.fits k)) k
    (State.takeGrant p) s ready settled (role (by decide)) past c r
  have refuseAnswers (r : Reply) := request_answers_past_setup p tag 75 (.refuseGrant p tag (.fits ())) ()
    (fun _ => State.refuseGrant p) s ready settled (role (by decide)) past r
  have dropAnswers (r : Reply) := request_answers_past_setup p tag 76 (.dropGrant p tag (.fits k)) k (State.dropGrant p) s
    ready settled (role (by decide)) past r
  have dropMoves (c : Custody) (r : Reply) := request_sets_custody p tag 76 (.dropGrant p tag (.fits k)) k
    (State.dropGrant p) s ready settled (role (by decide)) past c r
  rw [← exec_takeGrant] at takeAnswers takeMoves
  rw [← exec_refuseGrant] at refuseAnswers
  rw [← exec_dropGrant] at dropAnswers dropMoves
  refine ⟨fun outside => takeAnswers _ (takeGrant_badValue _ p outside),
    fun inRange empty => takeAnswers _ (takeGrant_noSuch _ p inRange empty), fun inRange e rest oldest => ⟨?_, ?_⟩,
    fun empty => refuseAnswers _ (refuseGrant_noSuch _ p empty), fun e rest oldest => ⟨?_, ?_⟩,
    fun outside => dropAnswers _ (dropGrant_badValue _ p outside), fun low high => ⟨?_, fun g holds => ⟨?_, ?_⟩⟩⟩
  · intro i g holder holds
    rw [covers_eq] at holder
    exact takeMoves _ _ (takeGrant_unites (s.taking p _) p oldest inRange holder holds)
  · intro noHolder
    rw [covers_eq] at noHolder
    refine ⟨?_, ?_, ?_, ?_⟩
    · exact fun any noFree => takeAnswers _ (takeGrant_full (s.taking p _) p oldest noHolder any noFree)
    · exact fun i any free => takeMoves _ _ (takeGrant_lowest (s.taking p _) p oldest noHolder any free)
    · exact fun g preferred occupied => takeAnswers _
        (takeGrant_occupied (s.taking p _) p oldest noHolder inRange preferred occupied)
    · exact fun preferred free => takeMoves _ _
        (takeGrant_preferred (s.taking p _) p oldest noHolder inRange preferred free)
  · exact fun full => refuseAnswers _ (refuseGrant_full _ p oldest full)
  · exact exec_refuseGrant_returns p tag s ready settled past (role (by decide)) oldest
  · exact fun empty => dropAnswers _ (dropGrant_noSuch _ p (by omega) empty)
  · exact fun close => dropAnswers _ (dropGrant_conflict _ p (by omega) (slot_of_getElem? holds) close)
  · exact fun noClose => dropMoves _ _ (dropGrant_drops (s.taking p _) p (by omega) (slot_of_getElem? holds) noClose)

end Sys2Proof.Machine
end

section
/-! PROOFS. The masters' requests on the hold set and RELEASE HUMP (R172, R173, R176): O26. -/

namespace Sys2Proof.Machine

/-! ### Presence and time after an update (R172) -/

section
variable (h : HoldSet) (now : YardTime) {ops : List HoldOp} {x : HoldReason}

theorem timeOf_update_of_absent (absent : (h.update now ops).has x = false) : (h.update now ops).timeOf x = none := by
  rw [timeOf_update, absent]
  rfl

/-- A reason an update neither brings nor takes keeps its time. -/
theorem timeOf_update_of_has_eq (same : (h.update now ops).has x = h.has x) :
    (h.update now ops).timeOf x = h.timeOf x := by
  rw [timeOf_update, same, HoldSet.has]
  cases h.timeOf x <;> rfl

end

/-! ### What RELEASE HUMP makes of the set (R176) -/

theorem releaseOps_of_ne_crest {p : Port} (other : p ≠ .crest) : State.releaseOps p = [.removeUrgent p] := by
  cases p with
  | crest => exact absurd rfl other
  | planning | speed | bowl => rfl

theorem releaseOps_ne_nil (p : Port) : State.releaseOps p ≠ [] := by
  cases p <;> simp [State.releaseOps]

section
variable (h : HoldSet) (now : YardTime)

theorem has_releaseCrest (x : HoldReason) :
    (h.update now (State.releaseOps .crest)).has x = (h.has x && x != .operator && x != .urgent) := by
  rw [has_update, has_eq_contains, Bool.eq_iff_iff]
  simp [State.releaseOps, applyOp, and_assoc, and_comm, and_left_comm]

theorem urgent_releaseCrest : (h.update now (State.releaseOps .crest)).urgent = [] := rfl

variable {p : Port} (other : p ≠ .crest)
include other

theorem urgent_releaseOther :
    (h.update now (State.releaseOps p)).urgent = h.urgent.filter (fun q => q != p) := by
  rw [releaseOps_of_ne_crest other]
  rfl

/-- URGENT goes with its last port; no other reason changes. -/
theorem has_releaseOther (x : HoldReason) :
    (h.update now (State.releaseOps p)).has x =
      (h.has x && !((h.update now (State.releaseOps p)).urgent.isEmpty && x == .urgent)) := by
  rw [urgent_releaseOther h now other, releaseOps_of_ne_crest other, has_update, has_eq_contains]
  simp only [List.foldl_cons, List.foldl_nil, applyOp]
  cases (h.urgent.filter (fun q => q != p)).isEmpty with
  | false => simp
  | true =>
    rw [Bool.eq_iff_iff]
    simp

end

/-- From any port RELEASE HUMP leaves every reason but OPERATOR and URGENT as it is. -/
theorem timeOf_release_ne (h : HoldSet) (now : YardTime) (p : Port) {x : HoldReason} (notOperator : x ≠ .operator)
    (notUrgent : x ≠ .urgent) : (h.update now (State.releaseOps p)).timeOf x = h.timeOf x := by
  apply timeOf_update_of_has_eq
  by_cases crest : p = .crest
  · subst crest
    rw [has_releaseCrest, bne_iff_ne.2 notOperator, bne_iff_ne.2 notUrgent, Bool.and_true, Bool.and_true]
  · simp [has_releaseOther h now crest, notUrgent]

/-! ### An update that changes nothing gives no notice (R172, R173, R179) -/

theorem holdUpdate_of_unchanged (s : State) (src : HoldSource) (ops : List HoldOp) (right : s.relayRight)
    (same : (s.holdUpdate src ops).holds = s.holds) : s.holdUpdate src ops = s := by
  rw [holdUpdate_holds] at same
  unfold State.holdUpdate
  dsimp only
  rw [same, ← right]
  exact if_pos ⟨rfl, rfl⟩

/-- A request whose claims leave a rightly judged set as it was settles by taking its claims away. -/
theorem settleHolds_of_unchanged (s : State) (r : HoldSource) (right : s.relayRight)
    (same : (s.settleHolds (some r)).holds = s.holds) : s.settleHolds (some r) = { s with holdInbox := [] } := by
  let mid : State := { s with holdInbox := [] }
  have last (src : HoldSource) : mid.holdUpdate src [] = mid :=
    holdUpdate_of_unchanged mid src [] right (holdUpdate_holds _ _ _)
  rw [settleHolds_holds _ _ (by simp)] at same
  unfold State.settleHolds
  by_cases empty : s.holdInbox.isEmpty
  · simp only [if_pos empty]
    exact last _
  · rw [if_neg empty] at same
    have claims : mid.holdUpdate r (s.holdInbox.map HoldClaim.op) = mid := by
      refine holdUpdate_of_unchanged mid r _ right ?_
      rw [holdUpdate_holds, List.isEmpty_map, if_neg empty]
      exact same
    simp only [if_neg empty]
    rw [claims]
    exact last _

/-- An event of a request that leaves the set, the judged relay and DRAINING as they were gives no notice at its end. -/
theorem finish_given_of_unchanged (s before : State) (r : HoldSource) (right : s.relayRight)
    (drains : s.mode = .draining → s.hasMoving = true) (same : (s.finish before (some r)).holds = s.holds) (q : Port) :
    ((s.finish before (some r)).ports.get q).given = (s.ports.get q).given := by
  have kept : (s.reportHeads before).drained = s.reportHeads before := if_neg (fun ends => ends.2 (drains ends.1))
  unfold State.finish at same ⊢
  rw [kept] at same ⊢
  rw [settleHolds_of_unchanged (s.reportHeads before) r right same]
  simp [State.startLines]

/-! ### A master's request on the hold set (R172, R174 to R178) -/

/-- A master's raises and clears claimed, and their answer queued with the set after the update, before the event closes. -/
def State.holdAnswered (s : State) (p : Port) (tag code : Nat) (ops : List HoldOp) : State :=
  { s with
    holdInbox := s.holdInbox ++ ops.map (fun o => ⟨.request code p, o⟩)
    ports := s.ports.set p { s.ports.get p with
      answers := (s.ports.get p).answers ++ [⟨.ordinary, ⟨tag, code, ⟨.done, .holds (s.holds.update s.now ops)⟩⟩⟩]
      working := (s.ports.get p).waiting.map (fun c => ⟨c, false, false⟩)
      waiting := none } }

section
variable (s : State) (p : Port) (tag code : Nat) (ops : List HoldOp)

theorem masterHold_answer (cmd : Instr) :
    ((s.taking p cmd).masterHold code p ops).1.modPort p
      (fun q => q.answer tag code ((s.taking p cmd).masterHold code p ops).2) = s.holdAnswered p tag code ops := by
  simp [State.holdAnswered, State.masterHold, State.taking, State.modPort, State.now, PortState.answer, Reply.doneWith]

theorem request_masterHold (cmd : Instr) (ready : s.ready p) (role : roleMay code p = true)
    (taken : s.mode = .setup → takenInSetup code = true) :
    request p tag code cmd (judge p code (.fits ()) (answered (fun _ => State.masterHold code p ops))) s =
      .next ((s.holdAnswered p tag code ops).finish s (some (.request code p))) := by
  rw [← masterHold_answer s p tag code ops cmd]
  exact request_ready p tag code cmd _ s ready _ _ (judge_fits p code () _ (s.taking p cmd) role taken)

theorem holdAnswered_given (q : Port) :
    ((s.holdAnswered p tag code ops).ports.get q).given = (s.ports.get q).given := by
  unfold State.holdAnswered
  by_cases own : q = p
  · subst own
    rw [PerPort.get_set]
  · rw [PerPort.get_set_ne _ _ own]

theorem finish_holdAnswered_answered (before : State) (src : Option HoldSource) :
    ((s.holdAnswered p tag code ops).finish before src).Answered p tag code
      ⟨.done, .holds (s.holds.update s.now ops)⟩ := by
  refine finish_answered _ before src p tag code _ .ordinary ?_
  simp [State.holdAnswered]

variable (settled : s.Settled)
include settled

/-- The raises and clears are one update of the set. -/
theorem finish_holdAnswered_holds (claims : ops ≠ []) (before : State) (k : HoldSource) :
    ((s.holdAnswered p tag code ops).finish before (some k)).holds = s.holds.update s.now ops := by
  obtain ⟨inbox, -, -⟩ := settled
  have made : (s.holdAnswered p tag code ops).holdInbox = ops.map (fun o => ⟨.request code p, o⟩) :=
    congrArg (· ++ _) inbox
  have raised : (ops.map (fun o => (⟨.request code p, o⟩ : HoldClaim))).map HoldClaim.op = ops := by
    simp [Function.comp_def]
  rw [finish_holds _ _ _ (by simp), made, if_neg (by simpa using claims), raised]
  rfl

/-- HUMP PROCEED is judged in the mode the event began in (R173). -/
theorem finish_holdAnswered_relay (before : State) (src : Option HoldSource) :
    let t := (s.holdAnswered p tag code ops).finish before src
    t.relay = relayJudgement s.mode t.holds := by
  obtain ⟨-, -, drains⟩ := settled
  have mode := finish_mode_kept (s.holdAnswered p tag code ops) before src drains
  dsimp only
  rw [finish_relay, mode]
  rfl

/-- The Hold Unit and the ports alone change. -/
theorem finish_holdAnswered (src : Option HoldSource) :
    let t := (s.holdAnswered p tag code ops).finish s src
    t = { s with holds := t.holds, relay := t.relay, ports := t.ports } := by
  obtain ⟨inbox, -, drains⟩ := settled
  have closes := finish_holds_and_ports (s.holdAnswered p tag code ops) s src rfl drains
  dsimp only at closes ⊢
  rw [← inbox] at closes
  exact closes

/-- A set left as it was brings no notice. -/
theorem finish_holdAnswered_given (before : State) (k : HoldSource) :
    let t := (s.holdAnswered p tag code ops).finish before (some k)
    t.holds = s.holds → ∀ q, (t.ports.get q).given = (s.ports.get q).given := by
  obtain ⟨-, right, drains⟩ := settled
  intro t same q
  exact (finish_given_of_unchanged (s.holdAnswered p tag code ops) before k right drains same q).trans
    (holdAnswered_given s p tag code ops q)

end

/-! ### RELEASE HUMP at its port (R17, R183 to R185) -/

/-- Every port may make RELEASE HUMP, in every mode. -/
theorem exec_releaseHump (p : Port) (tag : Nat) (s : State) (ready : s.ready p) :
    exec (.releaseHump p tag (.fits ())) s =
      .next ((s.holdAnswered p tag 10 (State.releaseOps p)).finish s (some (.request 10 p))) :=
  request_masterHold s p tag 10 _ _ ready rfl (fun _ => rfl)

/-- Settles O26, by the port: its clears are the one update of the event, and what they leave of the set is said above. -/
theorem releaseHumpClearsItsHolds : Obligations.ReleaseHumpClearsItsHolds := by
  intro p tag s ready settled _
  have holds := finish_holdAnswered_holds s p tag 10 (State.releaseOps p) settled (releaseOps_ne_nil p) s (.request 10 p)
  refine ⟨_, exec_releaseHump p tag s ready, ?_, fun other => ?_, fun r notOperator notUrgent => ?_,
    finish_holdAnswered_relay s p tag 10 _ settled s _, ?_, finish_holdAnswered s p tag 10 _ settled _,
    finish_holdAnswered_given s p tag 10 _ settled s _⟩
  · rintro rfl
    rw [holds]
    exact ⟨by simp [has_releaseCrest], by simp [has_releaseCrest], urgent_releaseCrest _ _⟩
  · rw [holds]
    refine ⟨urgent_releaseOther _ _ other, timeOf_update_of_has_eq _ _ ?_, ?_⟩
    · simp [has_releaseOther _ _ other]
    · split
      · next empty => exact timeOf_update_of_absent _ _ (by simp [has_releaseOther _ _ other, empty])
      · next remains => exact timeOf_update_of_has_eq _ _ (by simp [has_releaseOther _ _ other, remains])
  · rw [holds]
    exact timeOf_release_ne _ _ p notOperator notUrgent
  · rw [holds]
    exact finish_holdAnswered_answered s p tag 10 _ s _

end Sys2Proof.Machine
end
